-- ==== Sys2Proof/Word.lean ====
section
/-! DEFINITION. The word types of the C8: window words, bytes and nibbles of the link, 48-bit counts, and the
numbering of lines and contexts (spec/00_scope.md, Conventions). -/

namespace Sys2Proof

/-- A window word: 32 bits, numbered 31 (MSB) to 0 (LSB). -/
abbrev Word := BitVec 32

/-- A byte: register addresses, command codes and data of the service messages (R19). -/
abbrev Byte := BitVec 8

/-- Four bits, what one slot carries (R15). -/
abbrev Nibble := BitVec 4

/-- A 48-bit two's complement count: the extended count, the offset, the axis position (R50). -/
abbrev Count48 := BitVec 48

/-- A window address: a word address from 0x000 to 0x3FF (R174). -/
abbrev Address := BitVec 10

/-- Lines are numbered 0 to 7. -/
abbrev LineNo := Fin 8

/-- Contexts are numbered 0 to 3. -/
abbrev CtxNo := Fin 4

/-- The lines in ascending order. -/
def allLines : List LineNo := [0, 1, 2, 3, 4, 5, 6, 7]

/-- The contexts in ascending order. -/
def allCtxs : List CtxNo := [0, 1, 2, 3]

/-- One value for each line. -/
def perLine {α : Type} (f : LineNo → α) : Vector α 8 :=
  #v[f 0, f 1, f 2, f 3, f 4, f 5, f 6, f 7]

end Sys2Proof
end

