-- ==== Sys2Proof/Syntax.lean ====
section
/-! DEFINITION. The commands of the C8: one constructor for each row of spec/opcode_table.json. A command of the
command port carries no argument, since it takes ARG0 to ARG5 as they stand in the state at the write to CMD (R180).
What the part senses from outside at a step is an operand of that step: the level of DA at an entry to PROBING
(R29) and the DA samples of a frame (R3). -/

namespace Sys2Proof

/-- The steps of the part. -/
inductive Instr where
  /-- LINE_ENABLE, code 0x01 (R27); `da` is the level of DA that the link port reports (R29). -/
  | lineEnable (da : Bool)
  /-- LINE_DISABLE, code 0x02 (R30). -/
  | lineDisable
  /-- LINE_RESTART, code 0x03 (R28); `da` is the level of DA that the link port reports (R29). -/
  | lineRestart (da : Bool)
  /-- CYCLE_START, code 0x08 (R72). -/
  | cycleStart
  /-- CYCLE_STOP, code 0x09 (R73). -/
  | cycleStop
  /-- TRIGGER, code 0x0A (R76). -/
  | trigger
  /-- BANK_HOLD, code 0x10 (R99). -/
  | bankHold
  /-- BANK_RELEASE, code 0x11 (R100). -/
  | bankRelease
  /-- SET_PRESET, code 0x18 (R62). -/
  | setPreset
  /-- CANCEL_PRESET, code 0x19 (R64). -/
  | cancelPreset
  /-- ACK_CONTINUITY, code 0x1A (R61). -/
  | ackContinuity
  /-- SVC_OPEN, code 0x20 (R126). -/
  | svcOpen
  /-- SVC_CANCEL, code 0x21 (R130, R131). -/
  | svcCancel
  /-- SVC_RELEASE, code 0x22 (R133). -/
  | svcRelease
  /-- EVENT_POP, code 0x28 (R162). -/
  | eventPop
  /-- EVENT_FLUSH, code 0x29 (R163). -/
  | eventFlush
  /-- FAULT_CLEAR, code 0x30 (R171). -/
  | faultClear
  /-- SOFT_RESET, code 0x3F (R184). -/
  | softReset
  /-- A write to CMD of a value that holds no assigned code (R180). -/
  | badCommand (value : Word)
  /-- A host write to profile word `word` of line `line` (R26). -/
  | profileWrite (line : LineNo) (word : Fin 5) (value : Word)
  /-- A host write to the cycle configuration word (R70). -/
  | cycleConfigurationWrite (value : Word)
  /-- A host write to the service configuration word (R121). -/
  | serviceConfigurationWrite (value : Word)
  /-- A host write to the class mask word (R165). -/
  | classMaskWrite (value : Word)
  /-- A host write to an argument word or to a word with no behaviour of its own (R174). -/
  | registerWrite (address : Address) (value : Word)
  /-- A rising edge on SYNC (R75). -/
  | syncEdge
  /-- An expiry of the period timer (R74). -/
  | timerExpiry
  /-- The RESET input goes low (R185). -/
  | hardwareReset
  /-- The rising edge of RESET (R185). -/
  | resetRelease
  /-- The end of a probe frame (R33); `samples` are the DA samples of the frame, sample 1 first (R3). -/
  | probeFrameEnd (line : LineNo) (samples : List Bool)
  /-- The end of a running frame (R36); `samples` are the DA samples of the frame, sample 1 first (R3). -/
  | runningFrameEnd (line : LineNo) (samples : List Bool)
  /-- The link port of a line in recovery sees DA high (R13). -/
  | endOfRecovery (line : LineNo)
  /-- The recovery wait of a line reaches the recovery limit (R39). -/
  | recoveryLimitExpiry (line : LineNo)
  /-- 32 periods of REFCLK have passed: the timestamp counter advances (R85). -/
  | timestampCounterTick
  deriving DecidableEq, Repr

end Sys2Proof
end

