-- ==== Sys2Proof/Decode.lean ====
section
/-! DEFINITION. The window map (R175), the command codes (R182), and the host write that each host command is. The
opcode table gives no row any bits, so no table word spells a command; a host write on the bus does. -/

namespace Sys2Proof

/-- What a window address names (R175). -/
inductive WindowWord where
  | id | summary | cmd | arg (i : Fin 6) | cmdResult | cmdValue
  | cycleConfiguration | serviceConfiguration | serviceStatus | timestamp
  | faultSet | eventHead (k : Fin 4) | eventCount | classMask
  | profile (n : LineNo) (k : Fin 5) | lineStatus (n : LineNo) (k : Fin 4)
  | bankState | header (k : Fin 8) | record (n : LineNo) (k : Fin 8)
  | context (c : CtxNo) (k : Fin 24) | history (n : LineNo) (slot : Fin 16) (k : Fin 4)
  | unassigned
  deriving DecidableEq, Repr

/-- The global words below 0x040 (R175). -/
def decodeGlobal (a : Nat) : WindowWord :=
  if h : 3 ≤ a ∧ a ≤ 8 then .arg ⟨a - 3, by omega⟩
  else if h : 0x20 ≤ a ∧ a ≤ 0x23 then .eventHead ⟨a - 0x20, by omega⟩
  else if a = 0x000 then .id
  else if a = 0x001 then .summary
  else if a = 0x002 then .cmd
  else if a = 0x009 then .cmdResult
  else if a = 0x00A then .cmdValue
  else if a = 0x010 then .cycleConfiguration
  else if a = 0x011 then .serviceConfiguration
  else if a = 0x012 then .serviceStatus
  else if a = 0x013 then .timestamp
  else if a = 0x018 then .faultSet
  else if a = 0x024 then .eventCount
  else if a = 0x025 then .classMask
  else .unassigned

/-- The window map (R175): what the word at an address is. -/
def decodeAddress (address : Address) : WindowWord :=
  let a := address.toNat
  if a < 0x040 then decodeGlobal a
  else if h : a < 0x080 then
    if k : (a - 0x040) % 8 < 5 then .profile ⟨(a - 0x040) / 8, by omega⟩ ⟨(a - 0x040) % 8, k⟩ else .unassigned
  else if h : a < 0x0C0 then
    if k : (a - 0x080) % 8 < 4 then .lineStatus ⟨(a - 0x080) / 8, by omega⟩ ⟨(a - 0x080) % 8, k⟩ else .unassigned
  else if a = 0x0C0 then .bankState
  else if a < 0x100 then .unassigned
  else if h : a < 0x108 then .header ⟨a - 0x100, by omega⟩
  else if h : a < 0x148 then .record ⟨(a - 0x108) / 8, by omega⟩ ⟨(a - 0x108) % 8, by omega⟩
  else if a < 0x180 then .unassigned
  else if h : a < 0x1E0 then .context ⟨(a - 0x180) / 24, by omega⟩ ⟨(a - 0x180) % 24, by omega⟩
  else if a < 0x200 then .unassigned
  else
    .history ⟨(a - 0x200) / 64, by have := address.isLt; omega⟩ ⟨(a - 0x200) % 64 / 4, by omega⟩
      ⟨(a - 0x200) % 4, by omega⟩

/-- The command that a value written to CMD names (R182); none where it holds no assigned code, a set bit among bits
31 to 8 included (R180). `da` is the level of DA at a command that takes a line to PROBING. -/
def commandOf (da : Bool) (value : Word) : Option Instr :=
  match value.toNat with
  | 0x01 => some (.lineEnable da)
  | 0x02 => some .lineDisable
  | 0x03 => some (.lineRestart da)
  | 0x08 => some .cycleStart
  | 0x09 => some .cycleStop
  | 0x0A => some .trigger
  | 0x10 => some .bankHold
  | 0x11 => some .bankRelease
  | 0x18 => some .setPreset
  | 0x19 => some .cancelPreset
  | 0x1A => some .ackContinuity
  | 0x20 => some .svcOpen
  | 0x21 => some .svcCancel
  | 0x22 => some .svcRelease
  | 0x28 => some .eventPop
  | 0x29 => some .eventFlush
  | 0x30 => some .faultClear
  | 0x3F => some .softReset
  | _ => none

/-- Whether a value written to CMD holds an assigned command code (R180). -/
def assignedCommand (value : Word) : Bool := (commandOf false value).isSome

/-- Whether a write to the word has a behaviour of its own: CMD, the profile words and the three configuration words
(R175). Every other write stores an argument word or is ignored. -/
def hasOwnWrite (address : Address) : Bool :=
  match decodeAddress address with
  | .cmd | .cycleConfiguration | .serviceConfiguration | .classMask | .profile _ _ => true
  | _ => false

/-- The command that a host write is (R174, R175, R180). `da` is the level of DA at a command that takes a line to
PROBING. -/
def decodeWrite (da : Bool) (address : Address) (value : Word) : Instr :=
  match decodeAddress address with
  | .cmd => (commandOf da value).getD (.badCommand value)
  | .cycleConfiguration => .cycleConfigurationWrite value
  | .serviceConfiguration => .serviceConfigurationWrite value
  | .classMask => .classMaskWrite value
  | .profile n k => .profileWrite n k value
  | _ => .registerWrite address value

/-- The window address of profile word `k` of line `n` (R175). -/
def profileAddress (n : LineNo) (k : Fin 5) : Address := BitVec.ofNat 10 (0x040 + 8 * n.val + k.val)

/-- The host write that a host command is: its address and its value; none for an event that no bus access makes. -/
def encodeWrite : Instr → Option (Address × Word)
  | .lineEnable _ => some (0x002, 0x01)
  | .lineDisable => some (0x002, 0x02)
  | .lineRestart _ => some (0x002, 0x03)
  | .cycleStart => some (0x002, 0x08)
  | .cycleStop => some (0x002, 0x09)
  | .trigger => some (0x002, 0x0A)
  | .bankHold => some (0x002, 0x10)
  | .bankRelease => some (0x002, 0x11)
  | .setPreset => some (0x002, 0x18)
  | .cancelPreset => some (0x002, 0x19)
  | .ackContinuity => some (0x002, 0x1A)
  | .svcOpen => some (0x002, 0x20)
  | .svcCancel => some (0x002, 0x21)
  | .svcRelease => some (0x002, 0x22)
  | .eventPop => some (0x002, 0x28)
  | .eventFlush => some (0x002, 0x29)
  | .faultClear => some (0x002, 0x30)
  | .softReset => some (0x002, 0x3F)
  | .badCommand value => some (0x002, value)
  | .profileWrite n k value => some (profileAddress n k, value)
  | .cycleConfigurationWrite value => some (0x010, value)
  | .serviceConfigurationWrite value => some (0x011, value)
  | .classMaskWrite value => some (0x025, value)
  | .registerWrite address value => some (address, value)
  | .syncEdge => none
  | .timerExpiry => none
  | .hardwareReset => none
  | .resetRelease => none
  | .probeFrameEnd _ _ => none
  | .runningFrameEnd _ _ => none
  | .endOfRecovery _ => none
  | .recoveryLimitExpiry _ => none
  | .timestampCounterTick => none

/-- The command that a table word spells. No row of spec/opcode_table.json carries bits, so no word spells one. -/
def decodeTableWord (_nbits _w : Nat) : Option Instr := none

end Sys2Proof
end

