-- ==== Sys2Proof/Config.lean ====
section
/-! DEFINITION. The constants that the spec fixes for this part. The spec leaves no value of the C8's state open, so there
is no free value here: what comes from outside (the samples of DA, the moment of an event) is an operand of a command. -/

namespace Sys2Proof.Config

/-- The ID word (R176): vendor code 0x0D5, part code 0xC08, revision 0x01. -/
def idWord : Word := 0x0D5C0801#32

/-- The most entries the event queue holds (R160). -/
def queueCapacity : Nat := 32

/-- An ordinary post is appended while the queue holds at most this many entries (R160). -/
def postRoom : Nat := 30

/-- The entries of a full history ring (R104). -/
def ringDepth : Nat := 16

/-- The start deadline of a probe frame and the limit of every start deadline (R8). -/
def lastStartSample : Nat := 31

/-- The probe frame count at which a line that stays in PROBING is LOST (R35). -/
def probeLimit : Nat := 255

/-- The value at which AGE saturates (R50). -/
def ageLimit : Nat := 255

/-- The value at which the failure count saturates (R41). -/
def failureLimit : Nat := 63

/-- The value at which the overrun count saturates (R81). -/
def overrunLimit : Nat := 255

/-- The value at which frames used and the count of a LOST entry saturate (R118, R161). -/
def count16Limit : Nat := 65535

/-- The µs for which a link port disregards DA after CK has returned high (R13). -/
def disregardMicros : Nat := 2

end Sys2Proof.Config
end

