-- ==== Sys2Proof/Machine/State.lean ====
section
/-! DEFINITION. The state of the C8 as plain data, block by block, and its value right after a hardware reset (R185). -/

namespace Sys2Proof.Machine

/-! ## The encoder link (Chapter 1) -/

/-- A slot by its code (R15): the nibble of an idle slot and of an ABORT has no meaning and is not kept. -/
inductive Slot where
  | idle
  | abort
  | first (nibble : Nibble)
  | following (nibble : Nibble)
  deriving DecidableEq, Repr

/-- ERR and WRN of a frame (R9). -/
structure ErrWrn where
  err : Bool
  wrn : Bool
  deriving DecidableEq, Repr

/-- The four frame outcomes (R12). -/
inductive Outcome where
  | noAck | noStart | checkFail | checkOk
  deriving DecidableEq, Repr

/-- The frame result: an outcome with the fields that it makes present (R12). -/
inductive FrameResult where
  | noAck
  | noStart
  | checkFail (latency : Nat)
  | checkOk (latency raw : Nat) (errWrn : ErrWrn) (reply : Slot)
  deriving DecidableEq, Repr

/-- The parameters of a frame that the link port latches at the latch edge (R4). -/
structure Frame where
  slot : Slot
  deadline : Nat
  multiturn : BitVec 5
  singleturn : BitVec 5
  rate : BitVec 3
  deriving DecidableEq, Repr

/-- The recovery watch of a link port (R13): not running, disregarding DA for some µs more, or observing it. -/
inductive Watch where
  | none
  | disregarding (micros : Nat)
  | observing
  deriving DecidableEq, Repr

/-- A link port: the frame in flight, the recovery watch, and the level of DA that it last reported. -/
structure LinkPort where
  frame : Option Frame
  watch : Watch
  da : Bool
  deriving DecidableEq, Repr

/-! ## Line controllers (Chapter 2) -/

/-- The line states (R23). -/
inductive LineState where
  | off | probing | run | degraded | lost
  deriving DecidableEq, Repr

/-- The frame sub-states (R24); `none` in OFF and LOST. -/
inductive SubState where
  | none | ready | frame | recovery
  deriving DecidableEq, Repr

/-- The profile of a line (R25), each field as wide as its place in the profile words (R179). -/
structure Profile where
  singleturn : BitVec 5
  multiturn : BitVec 5
  reflected : Bool
  invert : Bool
  safety : Bool
  rate : BitVec 3
  slack : BitVec 3
  recoveryLimit : BitVec 8
  probeGood : BitVec 7
  velocityWindow : BitVec 4
  degradeThreshold : BitVec 4
  lostThreshold : BitVec 6
  recoverCount : BitVec 4
  gapLimit : BitVec 8
  jumpLimit : BitVec 40
  deriving DecidableEq, Repr

/-- The reasons of a LINE_STATE event (R42). -/
inductive LineReason where
  | enabled | probed | degraded | recovered | failures | probeTimeout | disabled | restarted
  deriving DecidableEq, Repr

/-- The two states in which a line leaves service (R32). -/
inductive Departure where
  | off | lost
  deriving DecidableEq, Repr

/-- The sample statuses (R37, R38, R90). -/
inductive SampleStatus where
  | notSampled | good | encError | jump | checkFail | noResponse | missed
  deriving DecidableEq, Repr

/-! ## Position units (Chapter 3) -/

/-- The judgement of whether E follows the axis (R50). -/
inductive Continuity where
  | none | valid | uncertain
  deriving DecidableEq, Repr

/-- The position unit of a line: its anchor state (R50), the armed preset (R62) and the ERR/WRN reference (R67). -/
structure PositionUnit where
  anchored : Bool
  rPrev : BitVec 40
  extended : Count48
  offset : Count48
  continuity : Continuity
  age : Nat
  preset : Option Count48
  reference : ErrWrn
  deriving DecidableEq, Repr

/-! ## History rings (Chapter 6) -/

/-- A sample entry (R106). -/
structure SampleEntry where
  cycle : BitVec 16
  status : SampleStatus
  extended : Option Count48
  errWrn : Option ErrWrn
  latency : Option Nat
  deriving DecidableEq, Repr

/-- A history ring: its entries, newest first, so that entry k is slot k (R110), and its sequence count (R109). -/
structure Ring where
  entries : List SampleEntry
  sequence : Word
  deriving DecidableEq, Repr

/-! ## The service engine (Chapters 7 and 8) -/

/-- The op of a service transaction with what belongs to it (R116, R126). -/
inductive SvcOp where
  | read (count : Nat)
  | write (data : Byte)
  | command
  deriving DecidableEq, Repr

/-- What a context holds from its allocation on (R116): `code` is the address of a READ or WRITE or the code of a
COMMAND; the attempt limit and the reply window are copies (R122). -/
structure Request where
  line : LineNo
  op : SvcOp
  code : Byte
  attemptLimit : BitVec 3
  replyWindow : BitVec 8
  deriving DecidableEq, Repr

/-- The statuses of a reply (R20). -/
inductive EncStatus where
  | ok | badAddress | readOnly | busy | requestCheck | unknownOp
  deriving DecidableEq, Repr

/-- The failure reasons (R118). -/
inductive FailureReason where
  | link | noReply | framing | slaveAbort | encBusy | encCheck | replyCheck | lineOff | lineLost
  deriving DecidableEq, Repr

/-- The phases of an ACTIVE context with their progress items (R116). `nibbles` are the reply nibbles received so
far, the status nibble first; their number is the nibble index, and the kept status and the expected length stand
beside them (R147). -/
inductive Phase where
  | sending (index : Nat)
  | awaiting (waited : Nat)
  | receiving (status : EncStatus) (expected : Nat) (nibbles : List Nibble)
  | restarting
  deriving DecidableEq, Repr

/-- What an ACTIVE context holds beside its request (R116). -/
structure Progress where
  attempts : Nat
  framesUsed : Nat
  phase : Phase
  deriving DecidableEq, Repr

/-- The kind of a result (R118). -/
inductive FinishKind where
  | done | failed | cancelled
  deriving DecidableEq, Repr

/-- The result of a finished context (R118). -/
structure Result where
  kind : FinishKind
  encStatus : Option EncStatus
  data : List Byte
  reason : Option FailureReason
  framesUsed : Nat
  deriving DecidableEq, Repr

/-- The state of a context with the items present in it (R116, R117). -/
inductive ContextBody where
  | free
  | queued (request : Request)
  | active (request : Request) (progress : Progress)
  | finished (request : Request) (attempts : Nat) (result : Result)
  deriving DecidableEq, Repr

/-- A context record (R116); the generation is kept in every state (R119). -/
structure Context where
  generation : BitVec 8
  body : ContextBody
  deriving DecidableEq, Repr

/-- The slot-in-flight record of a line (R138). -/
inductive SlotInFlight where
  | none
  | idle
  | abort
  | nibble (context : CtxNo) (index attempt : Nat)
  deriving DecidableEq, Repr

/-- The contexts and the service configuration (R116, R121). -/
structure ServiceEngine where
  contexts : Vector Context 4
  attemptLimit : BitVec 3
  replyWindow : BitVec 8
  configIgnored : Bool
  deriving DecidableEq, Repr

/-! ## A line -/

/-- All that the part holds for one line. `waited` are the µs of the recovery wait in progress (R39); `queue` holds the
contexts waiting for the line, head first (R123). -/
structure Line where
  profile : Profile
  state : LineState
  sub : SubState
  failures : Nat
  goodRun : Nat
  probeFrames : Nat
  lMeas : Nat
  disablePending : Bool
  lastOutcome : Option Outcome
  lastLatency : Option Nat
  lastErrWrn : Option ErrWrn
  writeIgnored : Bool
  waited : Option Nat
  link : LinkPort
  pos : PositionUnit
  ring : Ring
  queue : List CtxNo
  abortOwed : Bool
  slot : SlotInFlight
  deriving DecidableEq, Repr

/-! ## The cycle unit (Chapter 4) -/

/-- The trigger sources (R70). -/
inductive TriggerSource where
  | host | sync | timer
  deriving DecidableEq, Repr

/-- The run control (R71). -/
inductive RunControl where
  | stopped | started
  deriving DecidableEq, Repr

/-- The cycle state (R71). -/
inductive CycleState where
  | idle | active
  deriving DecidableEq, Repr

/-- The period timer (R74): stopped, or running with the µs counted since the end of the last period, or
since CYCLE_START. -/
inductive PeriodTimer where
  | stopped
  | running (elapsed : Nat)
  deriving DecidableEq, Repr

/-- The cycle unit. The source is held as its code, since a code that names no source is stored as written (R70). -/
structure CycleUnit where
  run : RunControl
  state : CycleState
  number : BitVec 16
  participating : List LineNo
  outstanding : List LineNo
  timer : PeriodTimer
  timestamp : Word
  sourceCode : BitVec 2
  period : BitVec 16
  configIgnored : Bool
  deriving DecidableEq, Repr

/-! ## The bank unit (Chapter 5) -/

/-- The publication kind of a header (R89). -/
inductive Publication where
  | onTime | late
  deriving DecidableEq, Repr

/-- The header of a bank (R89). -/
structure Header where
  cycle : BitVec 16
  source : TriggerSource
  triggered : Word
  completed : Word
  overruns : Nat
  participating : List LineNo
  publication : Publication
  deriving DecidableEq, Repr

/-- A line record (R90). -/
structure LineRecord where
  state : LineState
  status : SampleStatus
  errWrn : Option ErrWrn
  latency : Option Nat
  axis : Option Count48
  age : Nat
  continuity : Continuity
  velocity : Option Count48
  presetArmed : Bool
  deriving DecidableEq, Repr

/-- A bank: a header and eight line records. -/
structure Bank where
  header : Header
  records : Vector LineRecord 8
  deriving DecidableEq, Repr

/-- The two banks (R88). -/
inductive BankId where
  | a | b
  deriving DecidableEq, Repr

/-- The back status (R91). -/
inductive BackStatus where
  | stale | filling | held
  deriving DecidableEq, Repr

/-- The bank unit (R88, R91). -/
structure BankUnit where
  a : Bank
  b : Bank
  front : BankId
  backStatus : BackStatus
  hold : Bool
  deriving DecidableEq, Repr

/-! ## The fault unit (Chapter 10) -/

/-- The fault causes (R168). -/
inductive FaultCause where
  | reset
  | lineLost (line : LineNo)
  | continuity (line : LineNo)
  deriving DecidableEq, Repr

/-! ## The event queue (Chapter 9) -/

/-- The kind of an event with its line, ticket, detail and count (R157, R158). -/
inductive EventInfo where
  | cycleDone (bank : BankId)
  | cycleUnpublished (bank : BankId)
  | cycleLatePublish (bank : BankId)
  | cycleOverrun (source : TriggerSource) (overruns : Nat)
  | lineState (line : LineNo) (state : LineState) (reason : LineReason)
  | notReady (line : LineNo) (state : LineState)
  | presetTaken (line : LineNo)
  | presetDropped (line : LineNo) (state : LineState)
  | continuityLost (line : LineNo) (age : Nat)
  | encStatus (line : LineNo) (errWrn : ErrWrn)
  | svcFinished (line : LineNo) (context : CtxNo) (generation : BitVec 8) (kind : FinishKind)
      (reason : Option FailureReason)
  | faultRaised (cause : FaultCause)
  | softResetDone
  | lost (count : Nat)
  deriving DecidableEq, Repr

/-- An entry of the event queue: its kind and items, and the cycle number at posting (R157). -/
structure Event where
  info : EventInfo
  cycle : BitVec 16
  deriving DecidableEq, Repr

/-- The class mask; SYSTEM is always enabled (R165). -/
structure ClassMask where
  cycle : Bool
  line : Bool
  service : Bool
  fault : Bool
  deriving DecidableEq, Repr

/-- The event queue: its entries, head first, and the class mask. -/
structure EventQueue where
  entries : List Event
  mask : ClassMask
  deriving DecidableEq, Repr

/-! ## The command port (Chapter 11) -/

/-- The command port: CMD, ARG0 to ARG5, and the two answer words (R180 to R182). -/
structure CommandPort where
  cmd : Word
  args : Vector Word 6
  result : Word
  value : Word
  deriving DecidableEq, Repr

/-! ## The part -/

/-- The state of the C8. `resetLow` is the level of the RESET input; `faults` is the fault cause set; `pending` holds
the commands that wait, first in, first out. -/
structure State where
  resetLow : Bool
  lines : Vector Line 8
  cycle : CycleUnit
  banks : BankUnit
  service : ServiceEngine
  events : EventQueue
  faults : List FaultCause
  port : CommandPort
  pending : List Instr
  deriving DecidableEq, Repr

/-- The faults of the machine: there is none. The part reports every error through its state views, events and result
words, and it neither stalls nor stops (R174). -/
inductive Fault where
  deriving DecidableEq, Repr

/-- The refusals of the machine. -/
inductive Refusal where
  /-- Raised by an arm of the dispatch whose command has no meaning yet; safe, since the run ends. No arm raises it. -/
  | notModelled (mnemonic : String)
  deriving DecidableEq, Repr

/-! ## The reset state -/

/-- The default profile (R25). -/
def Profile.default : Profile :=
  { singleturn := 20, multiturn := 0, reflected := false, invert := false, safety := false, rate := 2, slack := 2,
    recoveryLimit := 40, probeGood := 8, velocityWindow := 1, degradeThreshold := 2, lostThreshold := 8,
    recoverCount := 4, gapLimit := 4, jumpLimit := 0x40000 }

/-- The cleared anchor state, no preset, and the reference at 0 (R50, R69). -/
def PositionUnit.reset : PositionUnit :=
  { anchored := false, rPrev := 0, extended := 0, offset := 0, continuity := .none, age := 255, preset := none,
    reference := ⟨false, false⟩ }

/-- The empty ring (R112). -/
def Ring.reset : Ring := { entries := [], sequence := 0 }

/-- A line after reset (R46, R69, R112, R137, R138). DESIGN CHOICE, unsafe (log entry 9): DA is taken as low. -/
def Line.reset : Line :=
  { profile := Profile.default, state := .off, sub := .none, failures := 0, goodRun := 0, probeFrames := 0, lMeas := 0,
    disablePending := false, lastOutcome := none, lastLatency := none, lastErrWrn := none, writeIgnored := false,
    waited := none, link := { frame := none, watch := .none, da := false }, pos := PositionUnit.reset,
    ring := Ring.reset, queue := [], abortOwed := false, slot := .none }

/-- The cycle unit after reset (R87). -/
def CycleUnit.reset : CycleUnit :=
  { run := .stopped, state := .idle, number := 0, participating := [], outstanding := [], timer := .stopped,
    timestamp := 0, sourceCode := 0, period := 1000, configIgnored := false }

/-- The reset contents of a header (R103). -/
def Header.reset : Header :=
  { cycle := 0, source := .host, triggered := 0, completed := 0, overruns := 0, participating := [],
    publication := .onTime }

/-- The reset contents of a line record (R103). -/
def LineRecord.reset : LineRecord :=
  { state := .off, status := .notSampled, errWrn := none, latency := none, axis := none, age := 255,
    continuity := .none, velocity := none, presetArmed := false }

/-- The reset contents of a bank (R103). -/
def Bank.reset : Bank := { header := Header.reset, records := Vector.replicate 8 LineRecord.reset }

/-- The bank unit after reset (R103). -/
def BankUnit.reset : BankUnit :=
  { a := Bank.reset, b := Bank.reset, front := .a, backStatus := .stale, hold := false }

/-- The service engine after reset (R121, R137). -/
def ServiceEngine.reset : ServiceEngine :=
  { contexts := Vector.replicate 4 { generation := 0, body := .free }, attemptLimit := 3, replyWindow := 32,
    configIgnored := false }

/-- The event queue after a hardware reset (R167). -/
def EventQueue.reset : EventQueue := { entries := [], mask := ⟨false, false, false, false⟩ }

/-- The command port after a hardware reset (R185). -/
def CommandPort.reset : CommandPort := { cmd := 0, args := Vector.replicate 6 0, result := 0, value := 0 }

/-- The part right after a hardware reset, at the rising edge of RESET (R185), with no command waiting. -/
def State.reset : State :=
  { resetLow := false, lines := Vector.replicate 8 Line.reset, cycle := CycleUnit.reset, banks := BankUnit.reset,
    service := ServiceEngine.reset, events := EventQueue.reset, faults := [.reset], port := CommandPort.reset,
    pending := [] }

end Sys2Proof.Machine
end

