-- ==== Sys2Proof/Machine/Link.lean ====
section
/-! DEFINITION. The encoder link (Chapter 1): slots, the frame and its judgement, the check field, and the service
messages with their check nibble. -/

namespace Sys2Proof.Machine

/-! ## Slots (R15) -/

/-- The bits of a nibble, D3 first. -/
def nibbleBits (d : Nibble) : List Bool := [d.getLsbD 3, d.getLsbD 2, d.getLsbD 1, d.getLsbD 0]

/-- The six bits S, V, D3 to D0 of a slot as the C8 sends it (R6, R15). -/
def Slot.bits : Slot → List Bool
  | .idle => [false, false, false, false, false, false]
  | .abort => [true, false, false, false, false, false]
  | .first d => true :: true :: nibbleBits d
  | .following d => false :: true :: nibbleBits d

/-- The slot that six received bits make: S and V are the code, D the nibble (R15). -/
def slotOf (s v : Bool) (d : Nibble) : Slot :=
  match s, v with
  | false, false => .idle
  | true, true => .first d
  | false, true => .following d
  | true, false => .abort

/-! ## The line clock and the levels of CK and RQ (R1 to R6) -/

/-- The divisor of the reference clock for a rate code from 0 to 4 (R2). -/
def clockDivisor (rate : BitVec 3) : Nat := 4 * 2 ^ rate.toNat

/-- The level of CK in half period `half` of a frame, counted from the latch edge: low in the first half of each
period and high in the second; high outside a frame (R1, R2). -/
def ckLevel (frame : Option Frame) (half : Nat) : Bool :=
  match frame with
  | none => true
  | some _ => half % 2 = 1

/-- The level of RQ in half period `half` of a frame: the request slot in periods 1 to 6, then low; low outside a frame
(R1, R6). -/
def rqLevel (frame : Option Frame) (half : Nat) : Bool :=
  match frame with
  | none => false
  | some f => f.slot.bits.getD (half / 2) false

/-- The clock periods of a frame with START seen at sample `l` (R10). -/
def frameLength (l : Nat) (multiturn singleturn : Nat) : Nat := l + 1 + multiturn + singleturn + 2 + 6 + 8

/-- The clock periods that a frame of a given result lasts (R10). -/
def periodsClocked (f : Frame) : FrameResult → Nat
  | .noAck => 2
  | .noStart => f.deadline + 1
  | .checkFail l => frameLength l f.multiturn.toNat f.singleturn.toNat
  | .checkOk l _ _ _ => frameLength l f.multiturn.toNat f.singleturn.toNat

/-- The request slot bits that a frame of a given length carries (R6). -/
def requestBitsSent (f : Frame) (periods : Nat) : List Bool := f.slot.bits.take periods

/-! ## The samples of a frame (R3, R7, R9) -/

/-- DA sample `k`. A sample beyond those given reads low, as an open DA pair does (R1; log entry 4). -/
def sampleAt (samples : List Bool) (k : Nat) : Bool := samples.getD (k - 1) false

/-- The samples from `first` on, `count` of them. -/
def samplesFrom (samples : List Bool) (first count : Nat) : List Bool :=
  (List.range count).map fun j => sampleAt samples (first + j)

/-- The unsigned number that a list of bits makes, most significant bit first. -/
def natOfBits (bits : List Bool) : Nat := bits.foldl (fun acc b => 2 * acc + b.toNat) 0

/-- The sample of START: the first high one from sample 2 to the deadline (R7, R8). -/
def startSample (samples : List Bool) (deadline : Nat) : Option Nat :=
  (List.range' 2 (deadline - 1)).find? fun k => sampleAt samples k

/-! ## The check field (R11) -/

/-- One bit into the CRC-8 register. -/
def crc8Step (register : BitVec 8) (bit : Bool) : BitVec 8 :=
  if (register.msb ^^ bit) then (register <<< 1) ^^^ 0x07#8 else register <<< 1

/-- The check field over the covered bits, in the order of transmission (R11). -/
def crc8 (bits : List Bool) : BitVec 8 := bits.foldl crc8Step 0xFF#8

/-! ## The judgement of a frame (R7 to R12) -/

/-- The frame result of the DA samples of a frame with the latched parameters (R12). -/
def judgeFrame (f : Frame) (samples : List Bool) : FrameResult :=
  if sampleAt samples 1 then .noAck
  else
    match startSample samples f.deadline with
    | none => .noStart
    | some l =>
      let w := f.multiturn.toNat + f.singleturn.toNat
      let covered := samplesFrom samples (l + 1) (w + 8)
      if natOfBits (samplesFrom samples (l + w + 9) 8) = (crc8 covered).toNat then
        .checkOk l (natOfBits (samplesFrom samples (l + 1) w))
          ⟨sampleAt samples (l + w + 1), sampleAt samples (l + w + 2)⟩
          (slotOf (sampleAt samples (l + w + 3)) (sampleAt samples (l + w + 4))
            (BitVec.ofNat 4 (natOfBits (samplesFrom samples (l + w + 5) 4))))
      else .checkFail l

/-- The outcome of a frame result. -/
def FrameResult.outcome : FrameResult → Outcome
  | .noAck => .noAck
  | .noStart => .noStart
  | .checkFail _ => .checkFail
  | .checkOk _ _ _ _ => .checkOk

/-- The latency, present when START was seen (R12). -/
def FrameResult.latency : FrameResult → Option Nat
  | .noAck => none
  | .noStart => none
  | .checkFail l => some l
  | .checkOk l _ _ _ => some l

/-- ERR and WRN, present in a CHECK_OK frame (R12). -/
def FrameResult.errWrn : FrameResult → Option ErrWrn
  | .checkOk _ _ ew _ => some ew
  | _ => none

/-- The reply slot, received when the frame ends CHECK_OK (R16). -/
def FrameResult.reply : FrameResult → Option Slot
  | .checkOk _ _ _ slot => some slot
  | _ => none

/-! ## What an encoder sends (R7, R9, R11) -/

/-- The low `width` bits of a number, most significant first. -/
def bitsOfNat (width value : Nat) : List Bool := (List.range width).map fun j => value.testBit (width - 1 - j)

/-- The bits that the check field covers (R11). -/
def coveredBits (width raw : Nat) (ew : ErrWrn) (reply : Slot) : List Bool :=
  bitsOfNat width raw ++ [ew.err, ew.wrn] ++ reply.bits

/-- The DA samples of a frame in which the encoder acknowledges, sends START at sample `latency` and then its fields
(R7, R9). -/
def encoderSamples (latency width raw : Nat) (ew : ErrWrn) (reply : Slot) : List Bool :=
  let covered := coveredBits width raw ew reply
  List.replicate (latency - 1) false ++ [true] ++ covered ++ bitsOfNat 8 (crc8 covered).toNat

/-! ## Service messages (R17 to R20) -/

/-- One bit into the CRC-4 register (R18). -/
def crc4Step (register : BitVec 4) (bit : Bool) : BitVec 4 :=
  if (register.msb ^^ bit) then (register <<< 1) ^^^ 0x9#4 else register <<< 1

/-- The check nibble over the nibbles before it (R18). -/
def crc4 (nibbles : List Nibble) : Nibble := (nibbles.flatMap nibbleBits).foldl crc4Step 0#4

/-- The high nibble of a byte. -/
def highNibble (b : Byte) : Nibble := b.extractLsb' 4 4

/-- The low nibble of a byte. -/
def lowNibble (b : Byte) : Nibble := b.extractLsb' 0 4

/-- The nibbles of a request before its check nibble (R19). -/
def Request.body (r : Request) : List Nibble :=
  match r.op with
  | .read count => [0x1, highNibble r.code, lowNibble r.code, BitVec.ofNat 4 (count - 1)]
  | .write data => [0x2, highNibble r.code, lowNibble r.code, highNibble data, lowNibble data]
  | .command => [0x3, highNibble r.code, lowNibble r.code]

/-- The request message with its check nibble (R18, R19). -/
def Request.message (r : Request) : List Nibble := r.body ++ [crc4 r.body]

/-- The length of a request message in nibbles (R19). -/
def Request.length (r : Request) : Nat := r.message.length

/-- The status that a status nibble stands for; none for a value from 0x6 to 0xF (R20). -/
def encStatusOf (d : Nibble) : Option EncStatus :=
  match d.toNat with
  | 0 => some .ok
  | 1 => some .badAddress
  | 2 => some .readOnly
  | 3 => some .busy
  | 4 => some .requestCheck
  | 5 => some .unknownOp
  | _ => none

/-- The length of a reply from its status and the op it answers (R20, R147). -/
def expectedReply (status : EncStatus) (op : SvcOp) : Nat :=
  match status, op with
  | .ok, .read count => 2 * count + 2
  | _, _ => 2

/-- The bytes that data nibbles make, the high nibble of each first (R20, R148). -/
def pairBytes : List Nibble → List Byte
  | high :: low :: rest => (high ++ low) :: pairBytes rest
  | _ => []

end Sys2Proof.Machine
end

