-- ==== Sys2Proof/Machine/Ops.lean ====
section
/-! DEFINITION. The named operations over the state that the blocks share: a line, a context, posting an event, raising
a fault cause, and taking a step while RESET is high. -/

namespace Sys2Proof.Machine

/-- The line numbered `n`. -/
def State.line (s : State) (n : LineNo) : Line := s.lines[n]

/-- Line `n` replaced. -/
def State.setLine (s : State) (n : LineNo) (l : Line) : State := { s with lines := s.lines.set n l }

/-- Line `n` updated. -/
def State.updLine (s : State) (n : LineNo) (f : Line → Line) : State := s.setLine n (f (s.line n))

/-- Every line updated. -/
def State.updLines (s : State) (f : Line → Line) : State := { s with lines := perLine fun n => f (s.line n) }

/-- The context numbered `c`. -/
def State.ctx (s : State) (c : CtxNo) : Context := s.service.contexts[c]

/-- Context `c` replaced. -/
def State.setCtx (s : State) (c : CtxNo) (x : Context) : State :=
  { s with service := { s.service with contexts := s.service.contexts.set c x } }

/-- The body of context `c` replaced; the generation is kept (R119). -/
def State.setBody (s : State) (c : CtxNo) (b : ContextBody) : State :=
  s.setCtx c { generation := (s.ctx c).generation, body := b }

/-- A count advanced by one, saturating. -/
def satSucc (limit count : Nat) : Nat := if count < limit then count + 1 else limit

/-! ## The event queue (R159 to R161) -/

/-- The queue after a lost post: a LOST entry at the tail advances, any other tail gets a LOST entry behind it (R161). -/
def recordLoss (cycle : BitVec 16) : List Event → List Event
  | [] => [⟨.lost 1, cycle⟩]
  | [⟨.lost count, c⟩] => [⟨.lost (satSucc Config.count16Limit count), c⟩]
  | [e] => [e, ⟨.lost 1, cycle⟩]
  | e :: f :: rest => e :: recordLoss cycle (f :: rest)

/-- The queue after a post: appended at 30 entries or fewer, lost otherwise (R160). -/
def postEntry (info : EventInfo) (cycle : BitVec 16) (entries : List Event) : List Event :=
  if entries.length ≤ Config.postRoom then entries ++ [⟨info, cycle⟩] else recordLoss cycle entries

/-- An event posted, with the cycle number at posting that the cycle unit supplies (R86, R159). -/
def post (info : EventInfo) (s : State) : State :=
  { s with events := { s.events with entries := postEntry info s.cycle.number s.events.entries } }

/-! ## The fault cause set (R169) -/

/-- A cause raised: added and reported by FAULT_RAISED when it is not in the set (R169). -/
def raiseCause (cause : FaultCause) (s : State) : State :=
  if cause ∈ s.faults then s else post (.faultRaised cause) { s with faults := s.faults ++ [cause] }

/-! ## Steps -/

/-- A step of the part. While RESET is low no block takes an event and the host port serves no access (R174, R185). -/
def whileRunning (f : State → State) (s : State) : Host.Outcome State Fault Refusal :=
  .next (if s.resetLow then s else f s)

end Sys2Proof.Machine
end

