-- ==== Sys2Proof/Machine/Position.lean ====
section
/-! DEFINITION. The position unit (Chapter 3): decoding the raw value, the anchor state, the four cases of a judged
sample, presets, and the report to the bank unit and the history ring. The commands SET_PRESET, CANCEL_PRESET and
ACK_CONTINUITY stand in PositionCommands.lean. -/

namespace Sys2Proof.Machine

/-- The width W = M + S of the raw value (R9). -/
def Profile.width (p : Profile) : Nat := p.multiturn.toNat + p.singleturn.toNat

/-! ## Decoding (R47 to R49) -/

/-- Conversion of a `w`-bit value from reflected binary code: bit i is the exclusive-or of bits w − 1 to i (R48). -/
def fromReflected (w raw : Nat) : Nat := (List.range w).foldl (fun acc k => acc ^^^ (raw >>> k)) 0

/-- Inversion of a `w`-bit value (R49). -/
def invertValue (w value : Nat) : Nat := (2 ^ w - value) % 2 ^ w

/-- The decoded raw value r (R47 to R49). -/
def decodeRaw (p : Profile) (raw : Nat) : Nat :=
  let binary := if p.reflected then fromReflected p.width raw else raw
  if p.invert then invertValue p.width binary else binary

/-! ## Judgement (R53 to R58) -/

/-- The signed difference on the circle of 2^w values that takes `prev` to `r` (R55). -/
def signedDelta (w prev r : Nat) : Int :=
  let d := ((r : Int) - (prev : Int)) % (2 ^ w : Int)
  if 2 ^ (w - 1) ≤ d then d - 2 ^ w else d

/-- The four cases of a judged sample (R53). -/
inductive SampleCase where
  | firstAnchor | gapSample | jump | accepted
  deriving DecidableEq, Repr

/-- Whether a sample judged on an anchored line comes after a gap (R56). -/
def isGap (p : Profile) (u : PositionUnit) : Bool := p.gapLimit.toNat < u.age || u.age = Config.ageLimit

/-- The case of a sample with decoded raw value `r`, in the order of the rules (R54, R56, R57, R58). -/
def judgeSample (p : Profile) (u : PositionUnit) (r : Nat) : SampleCase :=
  if u.anchored = false then .firstAnchor
  else if isGap p u then .gapSample
  else if p.jumpLimit.toNat < (signedDelta p.width u.rPrev.toNat r).natAbs then .jump
  else .accepted

/-- Whether a case is a trusted sample (R53). -/
def SampleCase.trusted : SampleCase → Bool
  | .jump => false
  | _ => true

/-- A trusted sample accepted into the anchor state: at a first anchor E starts at r, otherwise the difference is
added modulo 2^48; r_prev becomes r and AGE 0 (R54, R58). A first anchor makes continuity VALID, and a gap sample makes
VALID continuity UNCERTAIN (R54, R56). -/
def PositionUnit.trust (u : PositionUnit) (p : Profile) (case : SampleCase) (r : Nat) : PositionUnit :=
  let moved := u.extended + BitVec.ofInt 48 (signedDelta p.width u.rPrev.toNat r)
  let settled := { u with rPrev := BitVec.ofNat 40 r, age := 0 }
  match case with
  | .firstAnchor => { settled with anchored := true, extended := BitVec.ofNat 48 r, continuity := .valid }
  | .gapSample =>
    { settled with extended := moved, continuity := if u.continuity = .valid then .uncertain else u.continuity }
  | .accepted => { settled with extended := moved }
  | .jump => u

/-- A preset taken: the offset makes the axis position the preset value, and continuity is VALID (R63). -/
def PositionUnit.takePreset (u : PositionUnit) (value : Count48) : PositionUnit :=
  { u with offset := value - u.extended, continuity := .valid, preset := none }

/-- The line's position unit updated. -/
def State.updPos (s : State) (n : LineNo) (f : PositionUnit → PositionUnit) : State :=
  s.updLine n fun l => { l with pos := f l.pos }

/-- Step 1 of the position unit's work: ERR and WRN against the reference (R67). -/
def compareReference (n : LineNo) (ew : ErrWrn) (s : State) : State :=
  if (s.line n).pos.reference = ew then s
  else post (.encStatus n ew) (s.updPos n fun u => { u with reference := ew })

/-- What a gap sample that ends VALID continuity tells: CONTINUITY_LOST, and then, on a SAFETY line, the cause
CONTINUITY (R56, R60, R169). `age` is the AGE with which the sample was judged. -/
def continuityLost (n : LineNo) (age : Nat) (s : State) : State :=
  let posted := post (.continuityLost n age) s
  if (s.line n).profile.safety then raiseCause (.continuity n) posted else posted

/-- Step 3 of the position unit's work: an armed preset taken at a trusted sample (R63). -/
def takeArmedPreset (n : LineNo) (s : State) : State :=
  match (s.line n).pos.preset with
  | none => s
  | some value => post (.presetTaken n) (s.updPos n fun u => u.takePreset value)

/-- Step 2 and 3 for a sample of a given case (R54 to R58, R63, R68). -/
def applySample (n : LineNo) (case : SampleCase) (r : Nat) (s : State) : State :=
  if case.trusted then
    let u := (s.line n).pos
    let trusted := s.updPos n fun v => v.trust (s.line n).profile case r
    let told := if case = .gapSample && u.continuity = .valid then continuityLost n u.age trusted else trusted
    takeArmedPreset n told
  else s

/-- The judgement that the position unit answers (R53): trusted, jump, or none for a frame with ERR set. -/
inductive Judgement where
  | trusted | jump | none
  deriving DecidableEq, Repr

/-- The position unit's work at a running CHECK_OK frame end, and its answer (R53, R68). -/
def positionFrameEnd (n : LineNo) (raw : Nat) (ew : ErrWrn) (s : State) : State × Judgement :=
  let compared := compareReference n ew s
  if ew.err then (compared, .none)
  else
    let l := compared.line n
    let r := decodeRaw l.profile raw
    let case := judgeSample l.profile l.pos r
    (applySample n case r compared, if case.trusted then .trusted else .jump)

/-! ## Other work of the position unit -/

/-- AGE advanced at a cycle start (R52). -/
def advanceAge (l : Line) : Line := { l with pos := { l.pos with age := satSucc Config.ageLimit l.pos.age } }

/-- AGE at an entry to PROBING: 255 if the line is anchored (R51). -/
def ageAtProbing (u : PositionUnit) : PositionUnit :=
  if u.anchored then { u with age := Config.ageLimit } else u

/-- The cleared anchor state and reference of an accepted profile write (R26, R50, R67); the armed preset is not part
of the anchor state. -/
def PositionUnit.clear (u : PositionUnit) : PositionUnit := { PositionUnit.reset with preset := u.preset }

/-- An armed preset dropped at an entry to OFF or LOST (R65). -/
def dropPreset (n : LineNo) (entered : LineState) (s : State) : State :=
  match (s.line n).pos.preset with
  | none => s
  | some _ => post (.presetDropped n entered) (s.updPos n fun u => { u with preset := none })

/-- The axis position: E plus the offset modulo 2^48, present when the line is anchored (R59). -/
def PositionUnit.axis (u : PositionUnit) : Option Count48 := if u.anchored then some (u.extended + u.offset) else none

end Sys2Proof.Machine
end

