-- ==== Sys2Proof/Machine/Bank.lean ====
section
/-! DEFINITION. The bank unit (Chapter 5) with the history ring and the velocity of a record (Chapter 6):
initialisation, record writes, completion and publication. The commands BANK_HOLD and BANK_RELEASE stand in
BankCommands.lean. -/

namespace Sys2Proof.Machine

/-- The other bank. -/
def BankId.other : BankId → BankId
  | .a => .b
  | .b => .a

/-- The back bank: the one that the front selection does not name (R88). -/
def BankUnit.backId (u : BankUnit) : BankId := u.front.other

/-- A bank by its letter. -/
def BankUnit.bank (u : BankUnit) : BankId → Bank
  | .a => u.a
  | .b => u.b

/-- A bank replaced. -/
def BankUnit.setBank (u : BankUnit) (i : BankId) (b : Bank) : BankUnit :=
  match i with
  | .a => { u with a := b }
  | .b => { u with b := b }

/-- The bank that the host reads (R88). -/
def BankUnit.frontBank (u : BankUnit) : Bank := u.bank u.front

/-- The bank that the C8 fills (R88). -/
def BankUnit.backBank (u : BankUnit) : Bank := u.bank u.backId

/-- The back bank updated; the front bank is left as it is (R88). -/
def BankUnit.updBack (u : BankUnit) (f : Bank → Bank) : BankUnit := u.setBank u.backId (f u.backBank)

/-- The swap: the two banks exchange their roles, their contents left as they stood (R88). -/
def BankUnit.swap (u : BankUnit) : BankUnit := { u with front := u.front.other, backStatus := .stale }

/-! ## Initialisation at a cycle start (R92, R93) -/

/-- A line record with the position unit's report as it stands (R59, R90). -/
def reportRecord (l : Line) (status : SampleStatus) (ew : Option ErrWrn) (latency : Option Nat)
    (velocity : Option Count48) : LineRecord :=
  { state := l.state, status := status, errWrn := ew, latency := latency, axis := l.pos.axis, age := l.pos.age,
    continuity := l.pos.continuity, velocity := velocity, presetArmed := l.pos.preset.isSome }

/-- The record that the initialisation writes for a line (R93). -/
def initialRecord (l : Line) : LineRecord := reportRecord l .notSampled none none none

/-- The header that the initialisation writes (R92). -/
def initialHeader (s : State) (source : TriggerSource) : Header :=
  { cycle := s.cycle.number, source := source, triggered := s.cycle.timestamp, completed := 0, overruns := 0,
    participating := s.cycle.participating, publication := .onTime }

/-- The back bank initialised for the cycle that starts; it is then FILLING (R92, R93). -/
def initialiseBack (source : TriggerSource) (s : State) : State :=
  let bank := { header := initialHeader s source, records := perLine fun n => initialRecord (s.line n) }
  { s with banks := { s.banks.updBack fun _ => bank with backStatus := .filling } }

/-! ## The history ring (R104 to R109) -/

/-- An entry appended as the newest; a full ring first loses its oldest entry (R107), and the sequence count advances
(R109). -/
def Ring.append (r : Ring) (e : SampleEntry) : Ring :=
  { entries := (e :: r.entries).take Config.ringDepth, sequence := r.sequence + 1 }

/-- The entry of a record (R106): E is present when the status is GOOD. -/
def entryOf (s : State) (n : LineNo) (status : SampleStatus) (ew : Option ErrWrn) (latency : Option Nat) :
    SampleEntry :=
  { cycle := s.cycle.number, status := status,
    extended := if status = .good then some (s.line n).pos.extended else none, errWrn := ew, latency := latency }

/-! ## Velocity (R113, R114) -/

/-- Whether slots 1 to `w` hold the cycles directly before the newest entry's (R113, third condition). -/
def consecutive (entries : List SampleEntry) (newest : SampleEntry) (w : Nat) : Bool :=
  (List.range w).all fun j =>
    match entries[j + 1]? with
    | some e => e.cycle = newest.cycle - BitVec.ofNat 16 (j + 1)
    | none => false

/-- The velocity of a record, formed from the ring after the append, when the four conditions hold (R113, R114). -/
def velocityOf (p : Profile) (continuity : Continuity) (entries : List SampleEntry) : Option Count48 :=
  let w := p.velocityWindow.toNat
  match entries[0]?, entries[w]? with
  | some newest, some oldest =>
    if newest.status = .good && oldest.status = .good && consecutive entries newest w && continuity = .valid then
      match newest.extended, oldest.extended with
      | some e, some e' => some (e - e')
      | _, _ => none
    else none
  | _, _ => none

/-! ## Record writes (R94, R108) -/

/-- A record other than NOT_SAMPLED written: the ring appends its entry, the velocity is formed, and the whole record
goes into the back bank (R108). -/
def writeRecord (n : LineNo) (status : SampleStatus) (ew : Option ErrWrn) (latency : Option Nat) (s : State) : State :=
  let s := s.updLine n fun l => { l with ring := l.ring.append (entryOf s n status ew latency) }
  let l := s.line n
  let record := reportRecord l status ew latency (velocityOf l.profile l.pos.continuity l.ring.entries)
  { s with banks := s.banks.updBack fun b => { b with records := b.records.set n record } }

/-! ## Completion and publication (R83, R96, R97) -/

/-- The completion of the cycle: the completion timestamp goes into the back header; with HOLD clear the bank is
published and CYCLE_DONE posted, with HOLD set it becomes HELD and CYCLE_UNPUBLISHED is posted; the cycle unit is then
IDLE (R83, R96, R97). -/
def completeCycle (s : State) : State :=
  let stamped := s.banks.updBack fun b => { b with header := { b.header with completed := s.cycle.timestamp } }
  let s :=
    if s.banks.hold then
      post (.cycleUnpublished stamped.backId) { s with banks := { stamped with backStatus := .held } }
    else post (.cycleDone stamped.backId) { s with banks := stamped.swap }
  { s with cycle := { s.cycle with state := .idle } }

/-- The cycle unit told of a record written: a line of the outstanding set leaves it, and the cycle completes when the
set becomes empty (R82, R83). -/
def recordWritten (n : LineNo) (s : State) : State :=
  if s.cycle.state = .active && s.cycle.outstanding.contains n then
    let rest := s.cycle.outstanding.filter (· ≠ n)
    let s := { s with cycle := { s.cycle with outstanding := rest } }
    if rest.isEmpty then completeCycle s else s
  else s

end Sys2Proof.Machine
end

