-- ==== Sys2Proof/Machine/Operands.lean ====
section
/-! DEFINITION. The operands that a command takes from the argument words and that a host write takes from its value:
the line in ARG0, the preset value, the service request, the ticket, and the fields of the configuration and profile
words (R62, R120, R126, R178, R179, R182). -/

namespace Sys2Proof.Machine

/-- An argument word, ARG0 to ARG5 (R182). -/
def State.arg (s : State) (i : Fin 6) : Word := s.port.args[i]

/-- A line number in a word: none outside 0 to 7. -/
def lineOf (w : Word) : Option LineNo := if h : w.toNat < 8 then some ⟨w.toNat, h⟩ else none

/-- The line named in ARG0. -/
def State.argLine (s : State) : Option LineNo := lineOf (s.arg 0)

/-- The preset value: its low 32 bits in ARG1 and its high 16 bits in the low half of ARG2 (R62). -/
def State.argPreset (s : State) : Count48 := (s.arg 2).extractLsb' 0 16 ++ s.arg 1

/-- The op of SVC_OPEN with what ARG3 gives it, after the ranges of check 2 (R126). -/
def svcOpOf (op count : Word) : Option SvcOp :=
  match op.toNat with
  | 1 => if 1 ≤ count.toNat ∧ count.toNat ≤ 16 then some (.read count.toNat) else none
  | 2 => if count.toNat ≤ 255 then some (.write (count.extractLsb' 0 8)) else none
  | 3 => some .command
  | _ => none

/-- The op and the address or code that ARG1 to ARG3 give; none where check 2 of SVC_OPEN refuses them (R126). -/
def State.argRequest (s : State) : Option (SvcOp × Byte) :=
  if (s.arg 2).toNat ≤ 255 then (svcOpOf (s.arg 1) (s.arg 3)).map fun op => (op, (s.arg 2).extractLsb' 0 8) else none

/-- A ticket: a context number with its generation (R120). -/
structure Ticket where
  context : CtxNo
  generation : BitVec 8
  deriving DecidableEq, Repr

/-- The ticket in a word: the context in bits 1 to 0, the generation in bits 15 to 8, the other bits ignored (R182). -/
def ticketOf (w : Word) : Ticket := ⟨(w.extractLsb' 0 2).toFin, w.extractLsb' 8 8⟩

/-- The word of a ticket (R182). -/
def Ticket.word (t : Ticket) : Word :=
  BitVec.ofNat 32 t.context.val ||| (t.generation.setWidth 32 <<< 8)

/-! ## Configuration words (R178) -/

/-- The source code and the period in a cycle configuration word (R178). -/
def cycleFields (w : Word) : BitVec 2 × BitVec 16 := (w.extractLsb' 0 2, w.extractLsb' 16 16)

/-- The trigger source of a source code; code 3 names none (R178). -/
def sourceOf (code : BitVec 2) : Option TriggerSource :=
  match code.toNat with
  | 0 => some .host
  | 1 => some .sync
  | 2 => some .timer
  | _ => none

/-- The attempt limit and the reply window in a service configuration word (R178). -/
def serviceFields (w : Word) : BitVec 3 × BitVec 8 := (w.extractLsb' 0 3, w.extractLsb' 8 8)

/-- The four enables in a class mask word (R178). -/
def maskOf (w : Word) : ClassMask := ⟨w.getLsbD 0, w.getLsbD 1, w.getLsbD 2, w.getLsbD 3⟩

/-! ## Profile words (R179) -/

/-- A value written to profile word `k`: the fields of that word take their bits, out of range or not (R26, R179). -/
def Profile.write (p : Profile) (k : Fin 5) (w : Word) : Profile :=
  match k with
  | 0 =>
    { p with
      singleturn := w.extractLsb' 0 5
      multiturn := w.extractLsb' 8 5
      reflected := w.getLsbD 16
      invert := w.getLsbD 17
      safety := w.getLsbD 24 }
  | 1 =>
    { p with
      rate := w.extractLsb' 0 3
      slack := w.extractLsb' 4 3
      recoveryLimit := w.extractLsb' 8 8
      probeGood := w.extractLsb' 16 7
      velocityWindow := w.extractLsb' 24 4 }
  | 2 =>
    { p with
      degradeThreshold := w.extractLsb' 0 4
      lostThreshold := w.extractLsb' 8 6
      recoverCount := w.extractLsb' 16 4
      gapLimit := w.extractLsb' 24 8 }
  | 3 => { p with jumpLimit := p.jumpLimit.extractLsb' 32 8 ++ w }
  | 4 => { p with jumpLimit := w.extractLsb' 0 8 ++ p.jumpLimit.extractLsb' 0 32 }

end Sys2Proof.Machine
end

