-- ==== Sys2Proof/Machine/CommandPort.lean ====
section
/-! DEFINITION. The command port (R180, R181): the result codes, taking a command, and its answer. -/

namespace Sys2Proof.Machine

/-- The result codes (R181). -/
inductive ResultCode where
  | accepted | badCommand | badLine | badArgument | badProfile | wrongState | noContext | staleTicket | queueEmpty
  deriving DecidableEq, Repr

/-- The code of a result (R181). -/
def ResultCode.code : ResultCode → Nat
  | .accepted => 0x0
  | .badCommand => 0x1
  | .badLine => 0x2
  | .badArgument => 0x3
  | .badProfile => 0x4
  | .wrongState => 0x5
  | .noContext => 0x6
  | .staleTicket => 0x7
  | .queueEmpty => 0x8

/-- What a command's owner answers: a result, a CMD_VALUE, and the state it leaves (R180). -/
structure Answer where
  result : ResultCode
  value : Word
  state : State
  deriving DecidableEq, Repr

/-- An accepted command. -/
def accept (value : Nat) (s : State) : Answer := ⟨.accepted, BitVec.ofNat 32 value, s⟩

/-- A refused command: it changes no state, and CMD_VALUE is 0 unless its rule gives another value (R180). -/
def refuse (result : ResultCode) (s : State) (value : Nat := 0) : Answer := ⟨result, BitVec.ofNat 32 value, s⟩

/-- The answer word CMD_RESULT: the result code in bits 3 to 0 and the command code in bits 15 to 8 (R181). -/
def resultWord (code : Word) (result : ResultCode) : Word :=
  BitVec.ofNat 32 result.code ||| ((code.extractLsb' 0 8).setWidth 32 <<< 8)

/-- The answer words written (R180, R181). -/
def State.answer (s : State) (code : Word) (result : ResultCode) (value : Word) : State :=
  { s with port := { s.port with result := resultWord code result, value := value } }

/-- A write to CMD taken: the value is stored, the command handed to its owner with the argument words as they stand,
and the owner's answer written (R180). -/
def takeCommand (code : Word) (owner : State → Answer) (s : State) : State :=
  let a := owner { s with port := { s.port with cmd := code } }
  a.state.answer code a.result a.value

/-- A command that names a line in ARG0: BAD_LINE outside 0 to 7 (R27, R28, R30, R61, R62, R64). -/
def withLine (owner : LineNo → State → Answer) (s : State) : Answer :=
  match s.argLine with
  | none => refuse .badLine s
  | some n => owner n s

end Sys2Proof.Machine
end

