-- ==== Sys2Proof/Machine/BankCommands.lean ====
section
/-! DEFINITION. The commands of the bank unit: BANK_HOLD and BANK_RELEASE. -/

namespace Sys2Proof.Machine

/-- BANK_HOLD (R99). -/
def bankHold (s : State) : Answer :=
  accept (if s.banks.hold then 1 else 0) { s with banks := { s.banks with hold := true } }

/-- The late publication of a HELD bank: its kind set to LATE while it is back, the swap, and CYCLE_LATE_PUBLISH
(R98). -/
def publishLate (s : State) : State :=
  let marked := s.banks.updBack fun b => { b with header := { b.header with publication := .late } }
  post (.cycleLatePublish marked.backId) { s with banks := marked.swap }

/-- BANK_RELEASE (R100). -/
def bankRelease (s : State) : Answer :=
  let released := { s with banks := { s.banks with hold := false } }
  if s.banks.backStatus = .held then accept 1 (publishLate released) else accept 0 released

/-- BANK_HOLD (R99). -/
def execBankHold (s : State) : Host.Outcome State Fault Refusal := whileRunning (takeCommand 0x10 bankHold) s

/-- BANK_RELEASE (R100). -/
def execBankRelease (s : State) : Host.Outcome State Fault Refusal := whileRunning (takeCommand 0x11 bankRelease) s

end Sys2Proof.Machine
end

