-- ==== Sys2Proof/Machine/Service.lean ====
section
/-! DEFINITION. The service engine on the link (Chapters 7 and 8): the request slot of a frame, the work at a frame end,
attempt failures, finishes, and a line's departure. The commands SVC_OPEN, SVC_CANCEL and SVC_RELEASE stand in
ServiceCommands.lean. -/

namespace Sys2Proof.Machine

/-- The line's ACTIVE context (R124). -/
def State.activeCtx (s : State) (n : LineNo) : Option CtxNo :=
  allCtxs.find? fun c =>
    match (s.ctx c).body with
    | .active r _ => r.line = n
    | _ => false

/-- The slot-in-flight record of a line set (R138). -/
def State.setSlot (s : State) (n : LineNo) (x : SlotInFlight) : State := s.updLine n fun l => { l with slot := x }

/-- The abort-owed flag of a line set or cleared (R125). -/
def State.setAbort (s : State) (n : LineNo) (owed : Bool) : State := s.updLine n fun l => { l with abortOwed := owed }

/-- Nibble `i` of a request message. -/
def Request.nibble (r : Request) (i : Nat) : Nibble := r.message.getD i 0

/-! ## The request slot of a frame (R139 to R141) -/

/-- The request slot of a running frame start of line `n`, by the first condition that holds, with the slot-in-flight
record set (R138, R139). -/
def chooseSlot (n : LineNo) (s : State) : Slot × State :=
  if (s.line n).abortOwed then (.abort, s.setSlot n .abort)
  else
    match s.activeCtx n with
    | some c =>
      match (s.ctx c).body with
      | .active r p =>
        match p.phase with
        | .sending i => (.following (r.nibble i), s.setSlot n (.nibble c i p.attempts))
        | .restarting =>
          (.first (r.nibble 0),
            (s.setBody c (.active r { p with attempts := p.attempts + 1, phase := .sending 0 })).setSlot n
              (.nibble c 0 (p.attempts + 1)))
        | .awaiting _ => (.idle, s.setSlot n .idle)
        | .receiving _ _ _ => (.idle, s.setSlot n .idle)
      | _ => (.idle, s.setSlot n .idle)
    | none =>
      match (s.line n).queue with
      | [] => (.idle, s.setSlot n .idle)
      | c :: rest =>
        match (s.ctx c).body with
        | .queued r =>
          (.first (r.nibble 0),
            ((s.setBody c (.active r { attempts := 1, framesUsed := 0, phase := .sending 0 })).updLine n fun l =>
              { l with queue := rest }).setSlot n (.nibble c 0 1))
        | _ => (.idle, s.setSlot n .idle)

/-! ## Finishing (R129, R151) -/

/-- A context of a request finished: its result written, its state the finished one, and SVC_FINISHED posted (R129). -/
def finishCtx (c : CtxNo) (r : Request) (attempts : Nat) (result : Result) (s : State) : State :=
  post (.svcFinished r.line c (s.ctx c).generation result.kind result.reason)
    (s.setBody c (.finished r attempts result))

/-- The result of a context that ends DONE (R151). -/
def doneResult (status : EncStatus) (data : List Byte) (framesUsed : Nat) : Result :=
  { kind := .done, encStatus := some status, data := data, reason := none, framesUsed := framesUsed }

/-- The result of a context that ends FAILED (R118, R151). -/
def failedResult (reason : FailureReason) (status : Option EncStatus) (framesUsed : Nat) : Result :=
  { kind := .failed, encStatus := status, data := [], reason := some reason, framesUsed := framesUsed }

/-- The result of a cancelled context (R130, R131). -/
def cancelledResult (framesUsed : Nat) : Result :=
  { kind := .cancelled, encStatus := none, data := [], reason := none, framesUsed := framesUsed }

/-! ## Attempt failures (R150) -/

/-- Whether an attempt failure makes the line owe an ABORT (R125, R150). -/
def FailureReason.owesAbort : FailureReason → Bool
  | .link | .noReply | .framing | .slaveAbort => true
  | _ => false

/-- An attempt failure of the ACTIVE context `c`: the ABORT owed by the reason, then a restart while attempts are left
and a finish otherwise (R150). `status` is what an accepted BUSY or REQUEST_CHECK reply keeps for the result. -/
def failAttempt (c : CtxNo) (r : Request) (p : Progress) (reason : FailureReason) (status : Option EncStatus)
    (s : State) : State :=
  let owed := if reason.owesAbort then s.setAbort r.line true else s
  if p.attempts < r.attemptLimit.toNat then owed.setBody c (.active r { p with phase := .restarting })
  else finishCtx c r p.attempts (failedResult reason status p.framesUsed) owed

/-! ## The frame end (R142 to R149) -/

/-- The delivery of the request slot judged: an ABORT delivered clears the flag (R143). -/
def judgeDelivery (n : LineNo) (outcome : Outcome) (s : State) : State :=
  if (s.line n).slot = .abort && outcome = .checkOk then s.setAbort n false else s

/-- A whole reply whose check nibble matched (R149). -/
def acceptReply (c : CtxNo) (r : Request) (p : Progress) (status : EncStatus) (nibbles : List Nibble) (s : State) :
    State :=
  match status with
  | .ok =>
    let data := match r.op with
      | .read _ => pairBytes nibbles.tail
      | _ => []
    finishCtx c r p.attempts (doneResult .ok data p.framesUsed) s
  | .busy => failAttempt c r p .encBusy (some .busy) s
  | .requestCheck => failAttempt c r p .encCheck (some .requestCheck) s
  | .badAddress => finishCtx c r p.attempts (doneResult .badAddress [] p.framesUsed) s
  | .readOnly => finishCtx c r p.attempts (doneResult .readOnly [] p.framesUsed) s
  | .unknownOp => finishCtx c r p.attempts (doneResult .unknownOp [] p.framesUsed) s

/-- Whether the slot in flight is a nibble of context `c` (R138). -/
def SlotInFlight.ofContext (x : SlotInFlight) (c : CtxNo) : Bool :=
  match x with
  | .nibble c' _ _ => c' = c
  | _ => false

/-- The phase and attempt of an ACTIVE context at a CHECK_OK frame end (R145 to R149). `p` counts this frame already;
`inFlight` is the slot that the frame carried. -/
def advanceCtx (c : CtxNo) (r : Request) (p : Progress) (inFlight : SlotInFlight) (reply : Slot) (s : State) : State :=
  match p.phase, reply with
  | .restarting, _ => s
  | _, .abort => failAttempt c r p .slaveAbort none s
  | .sending i, _ =>
    if inFlight.ofContext c then
      let phase := if i + 1 = r.length then .awaiting 0 else .sending (i + 1)
      s.setBody c (.active r { p with phase := phase })
    else s
  | .awaiting waited, .idle =>
    if waited + 1 = r.replyWindow.toNat then failAttempt c r p .noReply none s
    else s.setBody c (.active r { p with phase := .awaiting (waited + 1) })
  | .awaiting _, .first d =>
    match encStatusOf d with
    | none => failAttempt c r p .framing none s
    | some status => s.setBody c (.active r { p with phase := .receiving status (expectedReply status r.op) [d] })
  | .awaiting _, .following _ => failAttempt c r p .framing none s
  | .receiving status expected nibbles, .following d =>
    if nibbles.length + 1 = expected then
      if d = crc4 nibbles then acceptReply c r p status nibbles s else failAttempt c r p .replyCheck none s
    else s.setBody c (.active r { p with phase := .receiving status expected (nibbles ++ [d]) })
  | .receiving _ _ _, _ => failAttempt c r p .framing none s

/-- The ACTIVE context at a frame end: the frame counted in frames used, and then the phase advanced by a CHECK_OK
frame, or the attempt failed with LINK by any other (R142, R144). -/
def ctxFrameEnd (c : CtxNo) (r : Request) (p : Progress) (inFlight : SlotInFlight) (result : FrameResult) (s : State) :
    State :=
  let p := { p with framesUsed := satSucc Config.count16Limit p.framesUsed }
  let counted := s.setBody c (.active r p)
  match result.reply with
  | some reply => advanceCtx c r p inFlight reply counted
  | none =>
    match p.phase with
    | .restarting => counted
    | _ => failAttempt c r p .link none counted

/-- The service engine's work at a running frame end of line `n` (R142). -/
def serviceFrameEnd (n : LineNo) (result : FrameResult) (s : State) : State :=
  let inFlight := (s.line n).slot
  let judged := judgeDelivery n result.outcome s
  let advanced := match judged.activeCtx n with
    | none => judged
    | some c =>
      match (judged.ctx c).body with
      | .active r p => ctxFrameEnd c r p inFlight result judged
      | _ => judged
  advanced.setSlot n .none

/-! ## A line leaves service (R153) -/

/-- A context failed because its line left service: frames used as it stood, 0 for a QUEUED one (R153). -/
def failForDeparture (reason : FailureReason) (s : State) (c : CtxNo) : State :=
  match (s.ctx c).body with
  | .active r p => finishCtx c r p.attempts (failedResult reason none p.framesUsed) s
  | .queued r => finishCtx c r 0 (failedResult reason none 0) s
  | _ => s

/-- The line's ACTIVE context failed first, then its QUEUED ones from the head, and the abort-owed flag cleared
(R153). -/
def failLine (n : LineNo) (reason : FailureReason) (s : State) : State :=
  let active := (s.activeCtx n).toList
  let failed := (active ++ (s.line n).queue).foldl (failForDeparture reason) s
  failed.updLine n fun l => { l with queue := [], abortOwed := false }

end Sys2Proof.Machine
end

