-- ==== Sys2Proof/Machine/LineOps.lean ====
section
/-! DEFINITION. The line controller's own work (Chapter 2): the checks of a profile, entry to and departure from
service, the start and the end of a frame, probing, and health counting. -/

namespace Sys2Proof.Machine

/-! ## The profile checks of LINE_ENABLE (R27) -/

/-- The fourteen checks with their numbers, in order (R27). -/
def profileChecks (p : Profile) : List (Nat × Bool) :=
  let w := p.width
  [ (1, 8 ≤ p.singleturn.toNat && p.singleturn.toNat ≤ 30),
    (2, p.multiturn.toNat ≤ 20),
    (3, w ≤ 40),
    (4, p.rate.toNat ≤ 4),
    (5, p.slack.toNat ≤ 7),
    (6, 2 ≤ p.recoveryLimit.toNat && p.recoveryLimit.toNat ≤ 255),
    (7, 4 ≤ p.probeGood.toNat && p.probeGood.toNat ≤ 64),
    (8, 1 ≤ p.degradeThreshold.toNat && p.degradeThreshold.toNat ≤ 15),
    (9, 2 ≤ p.lostThreshold.toNat && p.lostThreshold.toNat ≤ 63),
    (10, p.degradeThreshold.toNat < p.lostThreshold.toNat),
    (11, 1 ≤ p.recoverCount.toNat && p.recoverCount.toNat ≤ 15),
    (12, 1 ≤ p.jumpLimit.toNat && p.jumpLimit.toNat ≤ 2 ^ (w - 1)),
    (13, 1 ≤ p.gapLimit.toNat && p.gapLimit.toNat ≤ 255),
    (14, p.velocityWindow = 1 || p.velocityWindow = 2 || p.velocityWindow = 4 || p.velocityWindow = 8) ]

/-- The number of the first check that fails; none when the profile is valid (R27). -/
def firstFailingCheck (p : Profile) : Option Nat := ((profileChecks p).find? fun c => !c.2).map (·.1)

/-! ## Departure: entry to OFF or LOST (R32) -/

/-- The line state of a departure. -/
def Departure.state : Departure → LineState
  | .off => .off
  | .lost => .lost

/-- The failure reason of a departure (R153). -/
def Departure.reason : Departure → FailureReason
  | .off => .lineOff
  | .lost => .lineLost

/-- The line controller and the link port at an entry to OFF or LOST: no sub-state, the recovery wait stopped and the
recovery watch ended (R13, R24, R32). -/
def Line.depart (l : Line) (d : Departure) : Line :=
  { l with state := d.state, sub := .none, waited := none, link := { l.link with watch := .none } }

/-- An entry to OFF or LOST: LINE_STATE is posted, and then the service engine, the position unit and, at an entry to
LOST of a SAFETY line, the fault unit are told (R32, R42, R169). -/
def departService (n : LineNo) (d : Departure) (reason : LineReason) (s : State) : State :=
  let s := post (.lineState n d.state reason) (s.updLine n (·.depart d))
  let s := failLine n d.reason s
  let s := dropPreset n d.state s
  if d = .lost && (s.line n).profile.safety then raiseCause (.lineLost n) s else s

/-- A line with disable-pending set finishes its frame and goes to OFF (R31). -/
def deferredDisable (n : LineNo) (s : State) : State :=
  if (s.line n).disablePending then
    departService n .off .disabled (s.updLine n fun l => { l with disablePending := false })
  else s

/-! ## Frames (R4, R8, R24, R33, R36) -/

/-- The link port asked for a frame: the parameters are latched and the sub-state is FRAME (R4, R24). -/
def Line.startFrame (l : Line) (slot : Slot) (deadline : Nat) : Line :=
  let frame : Frame :=
    { slot := slot, deadline := deadline, multiturn := l.profile.multiturn, singleturn := l.profile.singleturn,
      rate := l.profile.rate }
  { l with sub := .frame, link := { l.link with frame := some frame, watch := .none } }

/-- A probe frame asked for: an idle slot and the deadline 31 (R8, R33). -/
def Line.startProbe (l : Line) : Line := l.startFrame .idle Config.lastStartSample

/-- The start deadline of a running frame (R8). -/
def Line.deadline (l : Line) : Nat := min Config.lastStartSample (l.lMeas + l.profile.slack.toNat)

/-- A running frame started: the service engine's slot, the deadline, and the frame (R36). -/
def startRunningFrame (n : LineNo) (s : State) : State :=
  let (slot, s) := chooseSlot n s
  s.updLine n fun l => l.startFrame slot l.deadline

/-- Whether the recovery of a line can end: the port observes DA, the 2 µs of its disregard being over (R13). -/
def Line.observesDa (l : Line) : Bool := l.sub = .recovery && l.link.watch = .observing

/-- The line ready for a frame: it asks for one at once in PROBING (R24, R33). -/
def Line.becomeReady (l : Line) : Line :=
  let ready := { l with sub := .ready, waited := none, link := { l.link with watch := .none, da := true } }
  if l.state = .probing then ready.startProbe else ready

/-- The common part of every frame end: recovery begins, with its watch and its wait, and the view takes the last
outcome, the last latency and, of a CHECK_OK frame, ERR and WRN (R13, R24, R33, R36, R39, R44). DESIGN CHOICE, unsafe (log
entry 9): the level of DA that the port keeps is low from here. -/
def Line.endFrame (l : Line) (result : FrameResult) : Line :=
  { l with
    sub := .recovery
    waited := some 0
    link := { frame := none, watch := .disregarding Config.disregardMicros, da := false }
    lastOutcome := some result.outcome
    lastLatency := result.latency
    lastErrWrn := match result.errWrn with
      | some ew => some ew
      | none => l.lastErrWrn }

/-- The frame whose end a line can take: the one in flight in sub-state FRAME (R12, R24). -/
def Line.frameInFlight (l : Line) : Option Frame := if l.sub = .frame then l.link.frame else none

/-! ## Entry to PROBING (R29) -/

/-- The line at an entry to PROBING, before the level of DA is taken (R29, steps 1 to 3). -/
def Line.enterProbing (l : Line) : Line :=
  { l with
    failures := 0
    goodRun := 0
    probeFrames := 0
    disablePending := false
    state := .probing
    pos := ageAtProbing l.pos }

/-- The level of DA taken: high, the first probe frame starts at once; low, the recovery wait and the recovery watch
begin, the watch without the disregard (R13, R29 step 4, R33). -/
def Line.takeDa (l : Line) (da : Bool) : Line :=
  if da then l.becomeReady
  else { l with sub := .recovery, waited := some 0, link := { l.link with watch := .observing, da := false } }

/-- The entry to PROBING (R29). -/
def enterProbing (n : LineNo) (da : Bool) (reason : LineReason) (s : State) : State :=
  let s := post (.lineState n .probing reason) (s.updLine n (·.enterProbing))
  s.updLine n (·.takeDa da)

/-! ## Probing (R33 to R35) -/

/-- The latency of a good probe frame: CHECK_OK with ERR 0 (R34). -/
def goodProbe : FrameResult → Option Nat
  | .checkOk l _ ew _ => if ew.err then none else some l
  | _ => none

/-- Whether two latencies are within one period of each other (R34). -/
def latencyClose (l l' : Nat) : Bool := l ≤ l' + 1 && l' ≤ l + 1

/-- The good run after a probe frame (R34). While a run is in progress the last frame was its last good one, so the
last latency is the latency to compare with (log entry 11). -/
def nextGoodRun (goodRun : Nat) (lastLatency : Option Nat) (result : FrameResult) : Nat :=
  match goodProbe result with
  | none => 0
  | some l =>
    match lastLatency with
    | some l' => if 1 ≤ goodRun && latencyClose l l' then goodRun + 1 else 1
    | none => 1

/-- PROBING with the probe frame count at 255 goes to LOST (R35). -/
def probeTimeout (n : LineNo) (s : State) : State :=
  if Config.probeLimit ≤ (s.line n).probeFrames then departService n .lost .probeTimeout s else s

/-- The good-run rule and the timeout at a probe frame end (R34, R35). -/
def judgeProbe (n : LineNo) (goodRun : Nat) (result : FrameResult) (s : State) : State :=
  if (s.line n).profile.probeGood.toNat ≤ goodRun then
    post (.lineState n .run .probed)
      (s.updLine n fun l =>
        { l with state := .run, lMeas := (result.latency).getD 0, failures := 0, goodRun := 0 })
  else probeTimeout n (s.updLine n fun l => { l with goodRun := goodRun })

/-- The end of a probe frame with its result (R33), a deferred disable last (R31). -/
def probeEnd (n : LineNo) (result : FrameResult) (s : State) : State :=
  let before := s.line n
  let goodRun := nextGoodRun before.goodRun before.lastLatency result
  let s := s.updLine n fun l => { l.endFrame result with probeFrames := l.probeFrames + 1 }
  deferredDisable n (judgeProbe n goodRun result s)

/-! ## Sample status and health (R37, R40, R41) -/

/-- The sample status of a running frame (R37). -/
def sampleStatus (result : FrameResult) (judgement : Judgement) : SampleStatus :=
  match result with
  | .noAck => .noResponse
  | .noStart => .noResponse
  | .checkFail _ => .checkFail
  | .checkOk _ _ ew _ => if ew.err then .encError else if judgement = .trusted then .good else .jump

/-- The failure count advanced, saturating at 63 (R41). -/
def Line.failed (l : Line) : Line := { l with failures := satSucc Config.failureLimit l.failures }

/-- The state that a failure leaves a line in, from its counts after the failure (R40, R41). -/
def Line.stateAfterFailure (l : Line) : LineState :=
  match l.state with
  | .run => if l.profile.degradeThreshold.toNat ≤ l.failed.failures then .degraded else .run
  | .degraded => if l.profile.lostThreshold.toNat ≤ l.failed.failures then .lost else .degraded
  | other => other

/-- A failure counted into the line's health (R40, R41). -/
def countFailure (n : LineNo) (s : State) : State :=
  let after := (s.line n).stateAfterFailure
  match (s.line n).state with
  | .run =>
    let s := s.updLine n fun l => { l.failed with state := after, goodRun := 0 }
    if after = .degraded then post (.lineState n .degraded .degraded) s else s
  | .degraded =>
    let s := s.updLine n fun l => { l.failed with goodRun := 0 }
    if after = .lost then departService n .lost .failures s else s
  | _ => s

/-- A good frame counted into the line's health (R40, R41). -/
def countGood (n : LineNo) (s : State) : State :=
  let l := s.line n
  match l.state with
  | .run => s.updLine n fun l => { l with failures := 0, goodRun := 0 }
  | .degraded =>
    if l.profile.recoverCount.toNat ≤ l.goodRun + 1 then
      post (.lineState n .run .recovered) (s.updLine n fun l => { l with state := .run, failures := 0, goodRun := 0 })
    else s.updLine n fun l => { l with goodRun := l.goodRun + 1 }
  | _ => s

/-- The health counting of a sample status (R37, R40, R41). -/
def countSample (n : LineNo) (status : SampleStatus) (s : State) : State :=
  if status = .good then countGood n s else countFailure n s

/-! ## The running frame end (R36) -/

/-- Step 1 of the frame end: the position unit's work and its answer (R36, R53). -/
def positionWork (n : LineNo) (result : FrameResult) (s : State) : State × Judgement :=
  match result with
  | .checkOk _ raw ew _ => positionFrameEnd n raw ew s
  | _ => (s, .none)

/-- The end of a running frame with its result, its six steps in order (R36). -/
def runningEnd (n : LineNo) (result : FrameResult) (s : State) : State :=
  let ended := s.updLine n (·.endFrame result)
  let (judged, judgement) := positionWork n result ended
  let status := sampleStatus result judgement
  let served := serviceFrameEnd n result judged
  let counted := countSample n status served
  let written := writeRecord n status result.errWrn result.latency counted
  deferredDisable n (recordWritten n written)

/-! ## The recovery limit (R39, R43) -/

/-- Whether the recovery wait of a line has reached the recovery limit (R39). -/
def Line.limitReached (l : Line) : Bool :=
  match l.waited with
  | none => false
  | some micros => l.sub = .recovery && l.profile.recoveryLimit.toNat ≤ micros

/-- A new recovery wait of the same length, begun when the limit was reached: µs counted since then belong to it
(R39). -/
def Line.newWait (l : Line) : Line := { l with waited := l.waited.map (· - l.profile.recoveryLimit.toNat) }

/-- A recovery-limit expiry: a new wait begins; in PROBING it counts as a probe frame that is not good, in RUN or
DEGRADED NOT_READY is posted and one failure counted (R35, R39, R43). -/
def recoveryExpiry (n : LineNo) (s : State) : State :=
  let s := s.updLine n (·.newWait)
  match (s.line n).state with
  | .probing =>
    probeTimeout n (s.updLine n fun l => { l with probeFrames := l.probeFrames + 1, goodRun := 0 })
  | .run => countFailure n (post (.notReady n (s.line n).stateAfterFailure) s)
  | .degraded => countFailure n (post (.notReady n (s.line n).stateAfterFailure) s)
  | _ => s

end Sys2Proof.Machine
end

