-- ==== Sys2Proof/Machine/CycleOps.lean ====
section
/-! DEFINITION. The cycle unit's own work (Chapter 4): the cycle start, the overrun, and taking a trigger. -/

namespace Sys2Proof.Machine

/-- Whether a line runs frames in cycles: in RUN or DEGRADED (R38, R79). -/
def Line.running (l : Line) : Bool := l.state = .run || l.state = .degraded

/-- Whether a line participates in a cycle that starts now (R79). -/
def Line.participates (l : Line) : Bool := l.running && l.sub = .ready && !l.disablePending

/-- Whether a line is missed in a cycle that starts now (R79). -/
def Line.isMissed (l : Line) : Bool := l.running && !l.participates

/-- The cycle number and every AGE advanced (R52, R78). -/
def numberCycle (s : State) : State :=
  { s with cycle := { s.cycle with number := s.cycle.number + 1 } }.updLines advanceAge

/-- The participating set formed; the outstanding set starts equal to it (R79). -/
def formSets (s : State) : State :=
  let set := allLines.filter fun n => (s.line n).participates
  { s with cycle := { s.cycle with participating := set, outstanding := set } }

/-- The record of a missed line (R38, R80). -/
def writeMissed (n : LineNo) (s : State) : State := writeRecord n .missed none none s

/-- The cycle start (R78 to R80); with no participating line the cycle completes at once (R84). -/
def startCycle (source : TriggerSource) (s : State) : State :=
  let formed := formSets (numberCycle s)
  let missed := allLines.filter fun n => (formed.line n).isMissed
  let initialised := initialiseBack source formed
  let started := initialised.cycle.participating.foldl (fun s n => startRunningFrame n s) initialised
  let recorded := missed.foldl (fun s n => writeMissed n s) started
  let active := { recorded with cycle := { recorded.cycle with state := .active } }
  if active.cycle.participating.isEmpty then completeCycle active else active

/-- An overrun: counted in the back header and reported (R81). -/
def overrun (source : TriggerSource) (s : State) : State :=
  let count := satSucc Config.overrunLimit s.banks.backBank.header.overruns
  post (.cycleOverrun source count)
    { s with banks := s.banks.updBack fun b => { b with header := { b.header with overruns := count } } }

/-- A trigger taken by the cycle unit (R77). -/
def takeTrigger (source : TriggerSource) (s : State) : State :=
  match s.cycle.run, s.cycle.state with
  | .stopped, _ => s
  | .started, .idle => startCycle source s
  | .started, .active => overrun source s

end Sys2Proof.Machine
end

