-- ==== Sys2Proof/Machine/CycleCommands.lean ====
section
/-! DEFINITION. The steps of the cycle unit: CYCLE_START, CYCLE_STOP, TRIGGER, CYCLE_CONFIGURATION_WRITE, SYNC_EDGE,
TIMER_EXPIRY and TIMESTAMP_COUNTER_TICK. -/

namespace Sys2Proof.Machine

/-- CYCLE_START (R72): the two checks, and with source TIMER the period timer started from 0 (R74). -/
def cycleStart (s : State) : Answer :=
  if s.cycle.run = .started then refuse .wrongState s
  else
    match sourceOf s.cycle.sourceCode with
    | none => refuse .badArgument s 1
    | some source =>
      if s.cycle.period.toNat < 20 then refuse .badArgument s 2
      else
        accept 0
          { s with
            cycle := { s.cycle with
              run := .started, timer := if source = .timer then .running 0 else .stopped } }

/-- CYCLE_STOP (R73). -/
def cycleStop (s : State) : Answer :=
  if s.cycle.run = .stopped then refuse .wrongState s
  else
    accept (if s.cycle.state = .active then 1 else 0)
      { s with cycle := { s.cycle with run := .stopped, timer := .stopped } }

/-- TRIGGER (R76). -/
def triggerCommand (s : State) : Answer :=
  if s.cycle.run = .stopped then refuse .wrongState s
  else accept (if s.cycle.state = .active then 1 else 0) (takeTrigger .host s)

/-- A host write to the cycle configuration word (R70). -/
def CycleUnit.writeConfig (u : CycleUnit) (w : Word) : CycleUnit :=
  match u.run with
  | .stopped =>
    { u with sourceCode := (cycleFields w).1, period := (cycleFields w).2, configIgnored := false }
  | .started => { u with configIgnored := true }

/-- A rising edge on SYNC (R75). -/
def syncEdge (s : State) : State :=
  if s.cycle.run = .started ∧ sourceOf s.cycle.sourceCode = some .sync then takeTrigger .sync s else s

/-- Whether the period timer expires: it is running and has counted one period (R74). -/
def CycleUnit.expires (u : CycleUnit) : Bool :=
  match u.timer with
  | .stopped => false
  | .running elapsed => u.period.toNat ≤ elapsed

/-- The period timer at its expiry: the next period began when this one was counted, so that µs counted since then
belong to it and the schedule does not shift (R74). -/
def PeriodTimer.restart (t : PeriodTimer) (period : Nat) : PeriodTimer :=
  match t with
  | .stopped => .stopped
  | .running elapsed => .running (elapsed - period)

/-- An expiry of the period timer, which comes each time a period has been counted: the next period begins and a trigger
is taken (R74). At any other time the timer does not expire (log entry 6). -/
def timerExpiry (s : State) : State :=
  if s.cycle.expires then
    takeTrigger .timer { s with cycle := { s.cycle with timer := s.cycle.timer.restart s.cycle.period.toNat } }
  else s

/-- The µs that the running period timer has counted advanced by one (R74). -/
def PeriodTimer.tick : PeriodTimer → PeriodTimer
  | .stopped => .stopped
  | .running elapsed => .running (elapsed + 1)

/-- The recovery watch one µs on (R13). -/
def Watch.tick : Watch → Watch
  | .disregarding (micros + 2) => .disregarding (micros + 1)
  | .disregarding _ => .observing
  | w => w

/-- The recovery wait and the recovery watch of a line one µs on (R13, R39; log entry 7). -/
def Line.tick (l : Line) : Line :=
  { l with
    waited := l.waited.map (· + 1)
    link := { l.link with watch := l.link.watch.tick } }

/-- A µs of the reference clock: the timestamp counter advances, and with it the counts of µs that the period timer
and the lines keep (R74, R85). -/
def timestampTick (s : State) : State :=
  { s with
    cycle := { s.cycle with
      timestamp := s.cycle.timestamp + 1, timer := s.cycle.timer.tick } }.updLines Line.tick

/-- CYCLE_START (R72). -/
def execCycleStart (s : State) : Host.Outcome State Fault Refusal := whileRunning (takeCommand 0x08 cycleStart) s

/-- CYCLE_STOP (R73). -/
def execCycleStop (s : State) : Host.Outcome State Fault Refusal := whileRunning (takeCommand 0x09 cycleStop) s

/-- TRIGGER (R76). -/
def execTrigger (s : State) : Host.Outcome State Fault Refusal := whileRunning (takeCommand 0x0A triggerCommand) s

/-- CYCLE_CONFIGURATION_WRITE (R70). -/
def execCycleConfigurationWrite (value : Word) (s : State) : Host.Outcome State Fault Refusal :=
  whileRunning (fun s => { s with cycle := s.cycle.writeConfig value }) s

/-- SYNC_EDGE (R75). -/
def execSyncEdge (s : State) : Host.Outcome State Fault Refusal := whileRunning syncEdge s

/-- TIMER_EXPIRY (R74). -/
def execTimerExpiry (s : State) : Host.Outcome State Fault Refusal := whileRunning timerExpiry s

/-- TIMESTAMP_COUNTER_TICK (R85). -/
def execTimestampCounterTick (s : State) : Host.Outcome State Fault Refusal := whileRunning timestampTick s

end Sys2Proof.Machine
end

