-- ==== Sys2Proof/Machine/Flags.lean ====
section
/-! DEFINITION. The classes and items of an event, the class mask, and the output levels IRQ and FAULT, with the codes
that the enumerations share in the window (R158, R165, R166, R172, section 11.5). -/

namespace Sys2Proof.Machine

/-! ## Events (R157, R158) -/

/-- The event classes. -/
inductive EventClass where
  | cycle | line | service | fault | system
  deriving DecidableEq, Repr

/-- The class of an event, fixed by its kind (R158). -/
def EventInfo.eventClass : EventInfo → EventClass
  | .cycleDone _ => .cycle
  | .cycleUnpublished _ => .cycle
  | .cycleLatePublish _ => .cycle
  | .cycleOverrun _ _ => .cycle
  | .lineState _ _ _ => .line
  | .notReady _ _ => .line
  | .presetTaken _ => .line
  | .presetDropped _ _ => .line
  | .continuityLost _ _ => .line
  | .encStatus _ _ => .line
  | .svcFinished _ _ _ _ _ => .service
  | .faultRaised _ => .fault
  | .softResetDone => .system
  | .lost _ => .system

/-- The line that a fault cause names (R168). -/
def FaultCause.line? : FaultCause → Option LineNo
  | .reset => none
  | .lineLost n => some n
  | .continuity n => some n

/-- The line of an event, present for the kinds that R158 marks. -/
def EventInfo.line? : EventInfo → Option LineNo
  | .lineState n _ _ => some n
  | .notReady n _ => some n
  | .presetTaken n => some n
  | .presetDropped n _ => some n
  | .continuityLost n _ => some n
  | .encStatus n _ => some n
  | .svcFinished n _ _ _ _ => some n
  | .faultRaised cause => cause.line?
  | _ => none

/-- Whether a class is enabled; SYSTEM always is (R165). -/
def ClassMask.enables (m : ClassMask) : EventClass → Bool
  | .cycle => m.cycle
  | .line => m.line
  | .service => m.service
  | .fault => m.fault
  | .system => true

/-- IRQ as a logical level: asserted while the queue holds an entry of an enabled class (R166). -/
def EventQueue.irq (q : EventQueue) : Bool := q.entries.any fun e => q.mask.enables e.info.eventClass

/-- IRQ of the part. -/
def State.irq (s : State) : Bool := s.events.irq

/-- FAULT as a logical level: asserted while the fault cause set is not empty (R172). -/
def State.faultOutput (s : State) : Bool := !s.faults.isEmpty

/-! ## Codes of the enumerations (section 11.5) -/

/-- Line state codes. -/
def LineState.code : LineState → Nat
  | .off => 0
  | .probing => 1
  | .run => 2
  | .degraded => 3
  | .lost => 4

/-- Sub-state codes (R179). -/
def SubState.code : SubState → Nat
  | .none => 0
  | .ready => 1
  | .frame => 2
  | .recovery => 3

/-- Sample status codes. -/
def SampleStatus.code : SampleStatus → Nat
  | .notSampled => 0
  | .good => 1
  | .encError => 2
  | .jump => 3
  | .checkFail => 4
  | .noResponse => 5
  | .missed => 6

/-- Continuity codes. -/
def Continuity.code : Continuity → Nat
  | .none => 0
  | .valid => 1
  | .uncertain => 2

/-- Trigger source codes. -/
def TriggerSource.code : TriggerSource → Nat
  | .host => 0
  | .sync => 1
  | .timer => 2

/-- Bank codes. -/
def BankId.code : BankId → Nat
  | .a => 0
  | .b => 1

/-- Back status codes (R177). -/
def BackStatus.code : BackStatus → Nat
  | .stale => 0
  | .filling => 1
  | .held => 2

/-- Context state codes of the finished states. -/
def FinishKind.code : FinishKind → Nat
  | .done => 3
  | .failed => 4
  | .cancelled => 5

/-- Context state codes. -/
def ContextBody.code : ContextBody → Nat
  | .free => 0
  | .queued _ => 1
  | .active _ _ => 2
  | .finished _ _ result => result.kind.code

/-- Op codes. -/
def SvcOp.code : SvcOp → Nat
  | .read _ => 1
  | .write _ => 2
  | .command => 3

/-- Phase codes. -/
def Phase.code : Phase → Nat
  | .sending _ => 1
  | .awaiting _ => 2
  | .receiving _ _ _ => 3
  | .restarting => 4

/-- Encoder status codes, as the status nibble (R20). -/
def EncStatus.code : EncStatus → Nat
  | .ok => 0
  | .badAddress => 1
  | .readOnly => 2
  | .busy => 3
  | .requestCheck => 4
  | .unknownOp => 5

/-- Failure reason codes. -/
def FailureReason.code : FailureReason → Nat
  | .link => 1
  | .noReply => 2
  | .framing => 3
  | .slaveAbort => 4
  | .encBusy => 5
  | .encCheck => 6
  | .replyCheck => 7
  | .lineOff => 8
  | .lineLost => 9

/-- Last outcome codes (R179). -/
def Outcome.code : Outcome → Nat
  | .noAck => 1
  | .noStart => 2
  | .checkFail => 3
  | .checkOk => 4

/-- Reason codes of LINE_STATE. -/
def LineReason.code : LineReason → Nat
  | .enabled => 1
  | .probed => 2
  | .degraded => 3
  | .recovered => 4
  | .failures => 5
  | .probeTimeout => 6
  | .disabled => 7
  | .restarted => 8

/-- Class codes. -/
def EventClass.code : EventClass → Nat
  | .cycle => 0
  | .line => 1
  | .service => 2
  | .fault => 3
  | .system => 4

/-- Kind codes (section 11.5). -/
def EventInfo.code : EventInfo → Nat
  | .cycleDone _ => 0x01
  | .cycleUnpublished _ => 0x02
  | .cycleLatePublish _ => 0x03
  | .cycleOverrun _ _ => 0x04
  | .lineState _ _ _ => 0x08
  | .notReady _ _ => 0x09
  | .presetTaken _ => 0x0A
  | .presetDropped _ _ => 0x0B
  | .continuityLost _ _ => 0x0C
  | .encStatus _ _ => 0x0D
  | .svcFinished _ _ _ _ _ => 0x10
  | .faultRaised _ => 0x14
  | .softResetDone => 0x18
  | .lost _ => 0x19

/-- Codes of the fault causes in a FAULT_RAISED detail (section 11.5). -/
def FaultCause.code : FaultCause → Nat
  | .reset => 0
  | .lineLost _ => 1
  | .continuity _ => 2

end Sys2Proof.Machine
end

