-- ==== Sys2Proof/Machine/EventCommands.lean ====
section
/-! DEFINITION. The steps of the event queue: EVENT_POP, EVENT_FLUSH and CLASS_MASK_WRITE. -/

namespace Sys2Proof.Machine

/-- The queue with its entries replaced; the mask is left as it was. -/
def State.setEntries (s : State) (entries : List Event) : State := { s with events := { s.events with entries := entries } }

/-- EVENT_POP (R162). -/
def eventPop (s : State) : Answer :=
  match s.events.entries with
  | [] => refuse .queueEmpty s
  | _ :: rest => accept rest.length (s.setEntries rest)

/-- EVENT_FLUSH (R163). -/
def eventFlush (s : State) : Answer := accept s.events.entries.length (s.setEntries [])

/-- EVENT_POP (R162). -/
def execEventPop (s : State) : Host.Outcome State Fault Refusal := whileRunning (takeCommand 0x28 eventPop) s

/-- EVENT_FLUSH (R163). -/
def execEventFlush (s : State) : Host.Outcome State Fault Refusal := whileRunning (takeCommand 0x29 eventFlush) s

/-- CLASS_MASK_WRITE (R165): the four enables stored; IRQ follows from the queue and the mask (R166). -/
def execClassMaskWrite (value : Word) (s : State) : Host.Outcome State Fault Refusal :=
  whileRunning (fun s => { s with events := { s.events with mask := maskOf value } }) s

end Sys2Proof.Machine
end

