-- ==== Sys2Proof/Machine/FaultCommands.lean ====
section
/-! DEFINITION. The command of the fault unit: FAULT_CLEAR. -/

namespace Sys2Proof.Machine

/-- Whether the condition of a cause is still present, so that FAULT_CLEAR keeps it (R171). -/
def State.faultHolds (s : State) : FaultCause → Bool
  | .reset => false
  | .lineLost n => (s.line n).state = .lost
  | .continuity n => (s.line n).pos.continuity = .uncertain

/-- FAULT_CLEAR (R171). -/
def faultClear (s : State) : Answer :=
  let kept := s.faults.filter s.faultHolds
  accept kept.length { s with faults := kept }

/-- FAULT_CLEAR (R171). -/
def execFaultClear (s : State) : Host.Outcome State Fault Refusal := whileRunning (takeCommand 0x30 faultClear) s

end Sys2Proof.Machine
end

