-- ==== Sys2Proof/Machine/LineCommands.lean ====
section
/-! DEFINITION. The steps of the line controllers: LINE_ENABLE, LINE_DISABLE, LINE_RESTART, PROFILE_WRITE,
PROBE_FRAME_END, RUNNING_FRAME_END, END_OF_RECOVERY and RECOVERY_LIMIT_EXPIRY. -/

namespace Sys2Proof.Machine

/-! ## Host commands -/

/-- LINE_ENABLE of a line (R27). -/
def lineEnable (da : Bool) (n : LineNo) (s : State) : Answer :=
  if (s.line n).state ≠ .off then refuse .wrongState s
  else
    match firstFailingCheck (s.line n).profile with
    | some check => refuse .badProfile s check
    | none => accept 0 (enterProbing n da .enabled s)

/-- LINE_RESTART of a line (R28). -/
def lineRestart (da : Bool) (n : LineNo) (s : State) : Answer :=
  if (s.line n).state ≠ .lost then refuse .wrongState s else accept 0 (enterProbing n da .restarted s)

/-- LINE_DISABLE of a line (R30). -/
def lineDisable (n : LineNo) (s : State) : Answer :=
  if (s.line n).state = .off then refuse .wrongState s
  else if (s.line n).sub = .frame then accept 1 (s.updLine n fun l => { l with disablePending := true })
  else accept 0 (departService n .off .disabled s)

/-- A host write to a profile word: accepted in OFF, where it stores the fields and clears the anchor state, the
reference and the ring; ignored with the flag set in every other state (R26, R67, R112). -/
def Line.writeProfile (l : Line) (k : Fin 5) (w : Word) : Line :=
  if l.state = .off then
    { l with profile := l.profile.write k w, writeIgnored := false, pos := l.pos.clear, ring := Ring.reset }
  else { l with writeIgnored := true }

/-- LINE_ENABLE (R27). -/
def execLineEnable (da : Bool) (s : State) : Host.Outcome State Fault Refusal :=
  whileRunning (takeCommand 0x01 (withLine (lineEnable da))) s

/-- LINE_DISABLE (R30). -/
def execLineDisable (s : State) : Host.Outcome State Fault Refusal :=
  whileRunning (takeCommand 0x02 (withLine lineDisable)) s

/-- LINE_RESTART (R28). -/
def execLineRestart (da : Bool) (s : State) : Host.Outcome State Fault Refusal :=
  whileRunning (takeCommand 0x03 (withLine (lineRestart da))) s

/-- PROFILE_WRITE (R26). -/
def execProfileWrite (n : LineNo) (k : Fin 5) (value : Word) (s : State) : Host.Outcome State Fault Refusal :=
  whileRunning (fun s => s.updLine n (·.writeProfile k value)) s

/-! ## Events of a line. An event that the state of the line excludes is not taken (log entry 5). -/

/-- PROBE_FRAME_END (R33): the link port judges the samples of the frame in flight (R12). -/
def execProbeFrameEnd (n : LineNo) (samples : List Bool) (s : State) : Host.Outcome State Fault Refusal :=
  whileRunning (fun s =>
    match (s.line n).state, (s.line n).frameInFlight with
    | .probing, some f => probeEnd n (judgeFrame f samples) s
    | _, _ => s) s

/-- RUNNING_FRAME_END (R36): the link port judges the samples of the frame in flight (R12). -/
def execRunningFrameEnd (n : LineNo) (samples : List Bool) (s : State) : Host.Outcome State Fault Refusal :=
  whileRunning (fun s =>
    match (s.line n).state, (s.line n).frameInFlight with
    | .run, some f => runningEnd n (judgeFrame f samples) s
    | .degraded, some f => runningEnd n (judgeFrame f samples) s
    | _, _ => s) s

/-- END_OF_RECOVERY (R13, R24): the port reports it only while it observes DA (log entry 6). -/
def execEndOfRecovery (n : LineNo) (s : State) : Host.Outcome State Fault Refusal :=
  whileRunning (fun s => if (s.line n).observesDa then s.updLine n (·.becomeReady) else s) s

/-- RECOVERY_LIMIT_EXPIRY (R39): it comes when the wait has reached the limit (log entry 6). -/
def execRecoveryLimitExpiry (n : LineNo) (s : State) : Host.Outcome State Fault Refusal :=
  whileRunning (fun s => if (s.line n).limitReached then recoveryExpiry n s else s) s

end Sys2Proof.Machine
end

