-- ==== Sys2Proof/Machine/Resets.lean ====
section
/-! DEFINITION. The resets of the whole part (R184, R185): SOFT_RESET, HARDWARE_RESET and RESET_RELEASE. -/

namespace Sys2Proof.Machine

/-- Every block at its reset state. The levels of the DA inputs and the waiting commands are not the part's to reset. -/
def resetBlocks (s : State) : State :=
  { State.reset with
    lines := perLine fun n => { Line.reset with link := { Line.reset.link with da := (s.line n).link.da } }
    pending := s.pending }

/-- SOFT_RESET (R184): every block reset, the argument words zeroed, CMD kept, and SOFT_RESET_DONE posted into the empty
queue (R167). -/
def softReset (s : State) : Answer :=
  accept 0 (post .softResetDone { resetBlocks s with port := { CommandPort.reset with cmd := s.port.cmd } })

/-- SOFT_RESET (R184). -/
def execSoftReset (s : State) : Host.Outcome State Fault Refusal := whileRunning (takeCommand 0x3F softReset) s

/-- HARDWARE_RESET (R185): RESET goes low, and every block is at its reset state (log entry 8). -/
def execHardwareReset (s : State) : Host.Outcome State Fault Refusal := .next { resetBlocks s with resetLow := true }

/-- RESET_RELEASE (R185): at the rising edge every block holds its reset state. With RESET high there is no rising edge
(log entry 5). -/
def execResetRelease (s : State) : Host.Outcome State Fault Refusal := .next (if s.resetLow then resetBlocks s else s)

end Sys2Proof.Machine
end

