-- ==== Sys2Proof/Machine/PositionCommands.lean ====
section
/-! DEFINITION. The commands of the position units: SET_PRESET, CANCEL_PRESET and ACK_CONTINUITY. -/

namespace Sys2Proof.Machine

/-- Whether a line is in service: in PROBING, RUN or DEGRADED (section 2.3). -/
def LineState.inService : LineState → Bool
  | .probing | .run | .degraded => true
  | .off | .lost => false

/-- SET_PRESET of a line (R62). -/
def setPreset (n : LineNo) (s : State) : Answer :=
  if (s.line n).state.inService then
    accept (if (s.line n).pos.preset.isSome then 1 else 0)
      (s.updPos n fun u => { u with preset := some s.argPreset })
  else refuse .wrongState s

/-- CANCEL_PRESET of a line (R64). -/
def cancelPreset (n : LineNo) (s : State) : Answer :=
  if (s.line n).pos.preset.isSome then accept 0 (s.updPos n fun u => { u with preset := none })
  else refuse .wrongState s

/-- ACK_CONTINUITY of a line (R61). -/
def ackContinuity (n : LineNo) (s : State) : Answer :=
  if (s.line n).pos.continuity = .uncertain then accept 0 (s.updPos n fun u => { u with continuity := .valid })
  else refuse .wrongState s

/-- SET_PRESET (R62). -/
def execSetPreset (s : State) : Host.Outcome State Fault Refusal :=
  whileRunning (takeCommand 0x18 (withLine setPreset)) s

/-- CANCEL_PRESET (R64). -/
def execCancelPreset (s : State) : Host.Outcome State Fault Refusal :=
  whileRunning (takeCommand 0x19 (withLine cancelPreset)) s

/-- ACK_CONTINUITY (R61). -/
def execAckContinuity (s : State) : Host.Outcome State Fault Refusal :=
  whileRunning (takeCommand 0x1A (withLine ackContinuity)) s

end Sys2Proof.Machine
end

