-- ==== Sys2Proof/Machine/ServiceCommands.lean ====
section
/-! DEFINITION. The steps of the service engine that the host takes: SVC_OPEN, SVC_CANCEL, SVC_RELEASE and
SERVICE_CONFIGURATION_WRITE. -/

namespace Sys2Proof.Machine

/-- The lowest-numbered FREE context (R127). -/
def State.freeCtx (s : State) : Option CtxNo := allCtxs.find? fun c => (s.ctx c).body = .free

/-- The allocation of context `c` (R127): the generation advanced, the request set with copies of the service
configuration, and the context at the tail of its line's queue. -/
def allocate (c : CtxNo) (n : LineNo) (op : SvcOp) (code : Byte) (s : State) : State :=
  let request : Request :=
    { line := n, op := op, code := code, attemptLimit := s.service.attemptLimit, replyWindow := s.service.replyWindow }
  (s.setCtx c { generation := (s.ctx c).generation + 1, body := .queued request }).updLine n fun l =>
    { l with queue := l.queue ++ [c] }

/-- SVC_OPEN of a line whose arguments passed checks 1 and 2 (R126, R127). -/
def openOn (n : LineNo) (op : SvcOp) (code : Byte) (s : State) : Answer :=
  if (s.line n).state.inService then
    match s.freeCtx with
    | none => refuse .noContext s
    | some c =>
      let opened := allocate c n op code s
      ⟨.accepted, (Ticket.mk c (opened.ctx c).generation).word, opened⟩
  else refuse .wrongState s

/-- SVC_OPEN (R126): its checks in order. -/
def svcOpen (n : LineNo) (s : State) : Answer :=
  match s.argRequest with
  | none => refuse .badArgument s
  | some (op, code) => openOn n op code s

/-- Whether a ticket is current: its context is not FREE and has the ticket's generation (R120). -/
def State.isCurrent (s : State) (t : Ticket) : Bool :=
  (s.ctx t.context).body ≠ .free && (s.ctx t.context).generation = t.generation

/-- A QUEUED context cancelled: out of its line's queue, and finished CANCELLED (R130). -/
def cancelQueued (c : CtxNo) (r : Request) (s : State) : State :=
  finishCtx c r 0 (cancelledResult 0)
    (s.updLine r.line fun l => { l with queue := l.queue.filter (· ≠ c) })

/-- An ACTIVE context cancelled: finished CANCELLED, and its line owes an ABORT (R131). -/
def cancelActive (c : CtxNo) (r : Request) (p : Progress) (s : State) : State :=
  finishCtx c r p.attempts (cancelledResult p.framesUsed) (s.setAbort r.line true)

/-- SVC_CANCEL (R130, R131). -/
def svcCancel (s : State) : Answer :=
  let t := ticketOf (s.arg 0)
  if s.isCurrent t then
    match (s.ctx t.context).body with
    | .queued r => accept 0 (cancelQueued t.context r s)
    | .active r p => accept 1 (cancelActive t.context r p s)
    | _ => refuse .wrongState s
  else refuse .staleTicket s

/-- SVC_RELEASE (R133). -/
def svcRelease (s : State) : Answer :=
  let t := ticketOf (s.arg 0)
  if s.isCurrent t then
    match (s.ctx t.context).body with
    | .finished _ _ _ => accept 0 (s.setBody t.context .free)
    | _ => refuse .wrongState s
  else refuse .staleTicket s

/-- A host write to the service configuration word: stored when both fields are in range, ignored with the flag set
otherwise (R121). -/
def ServiceEngine.writeConfig (u : ServiceEngine) (w : Word) : ServiceEngine :=
  let (limit, window) := serviceFields w
  if 1 ≤ limit.toNat ∧ limit.toNat ≤ 7 ∧ 4 ≤ window.toNat ∧ window.toNat ≤ 255 then
    { u with attemptLimit := limit, replyWindow := window, configIgnored := false }
  else { u with configIgnored := true }

/-- SVC_OPEN (R126). -/
def execSvcOpen (s : State) : Host.Outcome State Fault Refusal :=
  whileRunning (takeCommand 0x20 (withLine svcOpen)) s

/-- SVC_CANCEL (R130, R131). -/
def execSvcCancel (s : State) : Host.Outcome State Fault Refusal := whileRunning (takeCommand 0x21 svcCancel) s

/-- SVC_RELEASE (R133). -/
def execSvcRelease (s : State) : Host.Outcome State Fault Refusal := whileRunning (takeCommand 0x22 svcRelease) s

/-- SERVICE_CONFIGURATION_WRITE (R121). -/
def execServiceConfigurationWrite (value : Word) (s : State) : Host.Outcome State Fault Refusal :=
  whileRunning (fun s => { s with service := s.service.writeConfig value }) s

end Sys2Proof.Machine
end

