-- ==== Sys2Proof/Machine/HostWrite.lean ====
section
/-! DEFINITION. A host write to the window (R174, R175) and to CMD (R180), with the steps REGISTER_WRITE and
BAD_COMMAND. A term of either row that spells another row's write acts as that write (log entry 10). -/

namespace Sys2Proof.Machine

/-- The level of DA last reported by the link port of the line in ARG0. -/
def State.argDa (s : State) : Bool :=
  match s.argLine with
  | some n => (s.line n).link.da
  | none => false

/-- The owner of a command (R180, R182); none for a command that no write to CMD makes. -/
def ownerOf : Instr → Option (State → Answer)
  | .lineEnable da => some (withLine (lineEnable da))
  | .lineDisable => some (withLine lineDisable)
  | .lineRestart da => some (withLine (lineRestart da))
  | .cycleStart => some cycleStart
  | .cycleStop => some cycleStop
  | .trigger => some triggerCommand
  | .bankHold => some bankHold
  | .bankRelease => some bankRelease
  | .setPreset => some (withLine setPreset)
  | .cancelPreset => some (withLine cancelPreset)
  | .ackContinuity => some (withLine ackContinuity)
  | .svcOpen => some (withLine svcOpen)
  | .svcCancel => some svcCancel
  | .svcRelease => some svcRelease
  | .eventPop => some eventPop
  | .eventFlush => some eventFlush
  | .faultClear => some faultClear
  | .softReset => some softReset
  | _ => none

/-- The owner of the command that a value written to CMD holds; a value that holds none is refused with BAD_COMMAND
(R180). -/
def ownerOfValue (da : Bool) (value : Word) : State → Answer :=
  match (commandOf da value).bind ownerOf with
  | some owner => owner
  | none => refuse .badCommand

/-- A host write of a value to CMD (R180). -/
def writeCmd (value : Word) (s : State) : State := takeCommand value (ownerOfValue s.argDa value) s

/-- An argument word stored (R182). -/
def State.setArg (s : State) (i : Fin 6) (w : Word) : State :=
  { s with port := { s.port with args := s.port.args.set i w } }

/-- A host write to the window: the word's own rule, or no effect on a word that is read-only or not assigned (R174,
R175). -/
def hostWrite (address : Address) (value : Word) (s : State) : State :=
  match decodeAddress address with
  | .cmd => writeCmd value s
  | .arg i => s.setArg i value
  | .cycleConfiguration => { s with cycle := s.cycle.writeConfig value }
  | .serviceConfiguration => { s with service := s.service.writeConfig value }
  | .classMask => { s with events := { s.events with mask := maskOf value } }
  | .profile n k => s.updLine n (·.writeProfile k value)
  | _ => s

/-- BAD_COMMAND (R180): a write to CMD of a value that holds no assigned code. -/
def execBadCommand (value : Word) (s : State) : Host.Outcome State Fault Refusal := whileRunning (writeCmd value) s

/-- REGISTER_WRITE (R174, R182). -/
def execRegisterWrite (address : Address) (value : Word) (s : State) : Host.Outcome State Fault Refusal :=
  whileRunning (hostWrite address value) s

end Sys2Proof.Machine
end

