-- ==== Sys2Proof/Machine/Dispatch.lean ====
section
/-! DEFINITION. The dispatch: one arm for each command. -/

namespace Sys2Proof.Machine

def exec (i : Instr) (s : State) : Host.Outcome State Fault Refusal :=
  match i with
  | .lineEnable da => Sys2Proof.Machine.execLineEnable da s
  | .lineDisable => Sys2Proof.Machine.execLineDisable s
  | .lineRestart da => Sys2Proof.Machine.execLineRestart da s
  | .cycleStart => Sys2Proof.Machine.execCycleStart s
  | .cycleStop => Sys2Proof.Machine.execCycleStop s
  | .trigger => Sys2Proof.Machine.execTrigger s
  | .bankHold => Sys2Proof.Machine.execBankHold s
  | .bankRelease => Sys2Proof.Machine.execBankRelease s
  | .setPreset => Sys2Proof.Machine.execSetPreset s
  | .cancelPreset => Sys2Proof.Machine.execCancelPreset s
  | .ackContinuity => Sys2Proof.Machine.execAckContinuity s
  | .svcOpen => Sys2Proof.Machine.execSvcOpen s
  | .svcCancel => Sys2Proof.Machine.execSvcCancel s
  | .svcRelease => Sys2Proof.Machine.execSvcRelease s
  | .eventPop => Sys2Proof.Machine.execEventPop s
  | .eventFlush => Sys2Proof.Machine.execEventFlush s
  | .faultClear => Sys2Proof.Machine.execFaultClear s
  | .softReset => Sys2Proof.Machine.execSoftReset s
  | .badCommand value => Sys2Proof.Machine.execBadCommand value s
  | .profileWrite n k value => Sys2Proof.Machine.execProfileWrite n k value s
  | .cycleConfigurationWrite value => Sys2Proof.Machine.execCycleConfigurationWrite value s
  | .serviceConfigurationWrite value => Sys2Proof.Machine.execServiceConfigurationWrite value s
  | .classMaskWrite value => Sys2Proof.Machine.execClassMaskWrite value s
  | .registerWrite address value => Sys2Proof.Machine.execRegisterWrite address value s
  | .syncEdge => Sys2Proof.Machine.execSyncEdge s
  | .timerExpiry => Sys2Proof.Machine.execTimerExpiry s
  | .hardwareReset => Sys2Proof.Machine.execHardwareReset s
  | .resetRelease => Sys2Proof.Machine.execResetRelease s
  | .probeFrameEnd n samples => Sys2Proof.Machine.execProbeFrameEnd n samples s
  | .runningFrameEnd n samples => Sys2Proof.Machine.execRunningFrameEnd n samples s
  | .endOfRecovery n => Sys2Proof.Machine.execEndOfRecovery n s
  | .recoveryLimitExpiry n => Sys2Proof.Machine.execRecoveryLimitExpiry n s
  | .timestampCounterTick => Sys2Proof.Machine.execTimestampCounterTick s

end Sys2Proof.Machine
end

