-- ==== Sys2Proof/Machine/Window.lean ====
section
/-! DEFINITION. The host's reads: every word of the window as it stands in a state (R174 to R179, R183). A read changes
no state, so it is a function of the state and no step. -/

namespace Sys2Proof.Machine

/-- A value in a field of `width` bits with its lowest bit at `lo`. -/
def field (lo width value : Nat) : Word := ((BitVec.ofNat width value).setWidth 32) <<< lo

/-- A flag at a bit. -/
def flag (lo : Nat) (b : Bool) : Word := field lo 1 b.toNat

/-- The first word of a 48-bit value (R183). -/
def low48 (x : Count48) : Word := x.extractLsb' 0 32

/-- The second word of a 48-bit value, sign-extended (R183). -/
def high48 (x : Count48) : Word := (x.extractLsb' 32 16).signExtend 32

/-- An optional 48-bit value at two words: absent, it reads 0 (R183). -/
def pair48 (x : Option Count48) (second : Bool) : Word :=
  match x with
  | none => 0
  | some v => if second then high48 v else low48 v

/-- ERR, WRN and their presence bit (R183). -/
def errWrnBits (errAt wrnAt presentAt : Nat) (ew : Option ErrWrn) : Word :=
  match ew with
  | none => 0
  | some e => flag errAt e.err ||| flag wrnAt e.wrn ||| flag presentAt true

/-- The words of eight values, one for each line, joined. -/
def orLines (f : LineNo → Word) : Word := allLines.foldl (fun acc n => acc ||| f n) 0

/-! ## Status and configuration words (R177, R178) -/

/-- The summary status word (R177). -/
def summaryWord (s : State) : Word :=
  flag 0 (s.cycle.run = .started) ||| flag 1 (s.cycle.state = .active) ||| flag 2 s.cycle.configIgnored |||
    flag 3 s.service.configIgnored ||| flag 4 s.irq ||| flag 5 s.faultOutput ||| field 16 16 s.cycle.number.toNat

/-- The cycle configuration word (R178). -/
def cycleConfigWord (u : CycleUnit) : Word := field 0 2 u.sourceCode.toNat ||| field 16 16 u.period.toNat

/-- The service configuration word (R178). -/
def serviceConfigWord (u : ServiceEngine) : Word := field 0 3 u.attemptLimit.toNat ||| field 8 8 u.replyWindow.toNat

/-- The service status word (R136, R178). -/
def serviceStatusWord (s : State) : Word :=
  orLines fun n => flag n.val (s.line n).abortOwed ||| field (8 + 3 * n.val) 3 (s.line n).queue.length

/-- The fault cause set view (R178). -/
def faultWord (faults : List FaultCause) : Word :=
  flag 0 (faults.contains .reset) |||
    orLines fun n =>
      flag (8 + n.val) (faults.contains (.lineLost n)) ||| flag (16 + n.val) (faults.contains (.continuity n))

/-- The class mask word; the SYSTEM enable reads 1 (R165, R178). -/
def maskWord (m : ClassMask) : Word :=
  flag 0 m.cycle ||| flag 1 m.line ||| flag 2 m.service ||| flag 3 m.fault ||| flag 4 true

/-- The bank state word (R177). -/
def bankStateWord (u : BankUnit) : Word :=
  field 0 1 u.front.code ||| field 4 2 u.backStatus.code ||| flag 8 u.hold

/-! ## Lines (R179) -/

/-- Profile word `k` (R179). -/
def profileWord (p : Profile) (k : Fin 5) : Word :=
  match k with
  | 0 =>
    field 0 5 p.singleturn.toNat ||| field 8 5 p.multiturn.toNat ||| flag 16 p.reflected ||| flag 17 p.invert |||
      flag 24 p.safety
  | 1 =>
    field 0 3 p.rate.toNat ||| field 4 3 p.slack.toNat ||| field 8 8 p.recoveryLimit.toNat |||
      field 16 7 p.probeGood.toNat ||| field 24 4 p.velocityWindow.toNat
  | 2 =>
    field 0 4 p.degradeThreshold.toNat ||| field 8 6 p.lostThreshold.toNat ||| field 16 4 p.recoverCount.toNat |||
      field 24 8 p.gapLimit.toNat
  | 3 => p.jumpLimit.extractLsb' 0 32
  | 4 => field 0 8 (p.jumpLimit.extractLsb' 32 8).toNat

/-- Line status word `k` (R44, R179). -/
def lineStatusWord (l : Line) (k : Fin 4) : Word :=
  match k with
  | 0 => field 0 3 l.state.code ||| field 4 2 l.sub.code ||| flag 8 l.disablePending ||| flag 9 l.writeIgnored
  | 1 => field 0 6 l.failures ||| field 8 7 l.goodRun ||| field 16 8 l.probeFrames
  | 2 =>
    field 0 5 l.lMeas ||| field 8 3 ((l.lastOutcome.map Outcome.code).getD 0) ||| field 16 5 (l.lastLatency.getD 0) |||
      errWrnBits 24 25 26 l.lastErrWrn
  | 3 => l.ring.sequence

/-! ## Banks and rings (section 11.5) -/

/-- Header word `k` of a bank (section 11.5). -/
def headerWord (bank : BankId) (h : Header) (k : Fin 8) : Word :=
  match k with
  | 0 =>
    field 0 16 h.cycle.toNat ||| field 16 2 h.source.code ||| flag 20 (h.publication = .late) |||
      field 24 8 h.overruns
  | 1 => h.triggered
  | 2 => h.completed
  | 3 => orLines (fun n => flag n.val (h.participating.contains n)) ||| field 8 1 bank.code
  | _ => 0

/-- Line record word `k` (section 11.5). -/
def recordWord (r : LineRecord) (k : Fin 8) : Word :=
  match k with
  | 0 =>
    field 0 3 r.state.code ||| field 4 3 r.status.code ||| field 8 2 r.continuity.code ||| flag 12 r.presetArmed |||
      errWrnBits 16 17 20 r.errWrn ||| flag 21 r.latency.isSome ||| flag 22 r.axis.isSome |||
      flag 23 r.velocity.isSome ||| field 24 5 (r.latency.getD 0)
  | 1 => field 0 8 r.age
  | 2 => pair48 r.axis false
  | 3 => pair48 r.axis true
  | 4 => pair48 r.velocity false
  | 5 => pair48 r.velocity true
  | _ => 0

/-- Word `k` of a history slot; an empty slot reads 0 in all four words (R110). -/
def historyWord (e : Option SampleEntry) (k : Fin 4) : Word :=
  match e with
  | none => 0
  | some e =>
    match k with
    | 0 =>
      field 0 16 e.cycle.toNat ||| field 16 3 e.status.code ||| errWrnBits 20 21 22 e.errWrn |||
        flag 23 e.latency.isSome ||| flag 24 e.extended.isSome
    | 1 => field 0 5 (e.latency.getD 0)
    | 2 => pair48 e.extended false
    | 3 => pair48 e.extended true

/-! ## Contexts (R134, section 11.5) -/

/-- The request of a context, present in every state except FREE (R116). -/
def ContextBody.request? : ContextBody → Option Request
  | .free => none
  | .queued r => some r
  | .active r _ => some r
  | .finished r _ _ => some r

/-- Attempts used: 0 until the activation (R116, R127). -/
def ContextBody.attempts : ContextBody → Nat
  | .free => 0
  | .queued _ => 0
  | .active _ p => p.attempts
  | .finished _ attempts _ => attempts

/-- Frames used, shown as it advances (R134, R155). -/
def ContextBody.framesUsed : ContextBody → Nat
  | .free => 0
  | .queued _ => 0
  | .active _ p => p.framesUsed
  | .finished _ _ result => result.framesUsed

/-- The count of a READ and the write data of a WRITE (section 11.5). -/
def opBits : SvcOp → Word
  | .read count => field 8 5 count
  | .write data => field 16 8 data.toNat
  | .command => 0

/-- The phase and its progress item (section 11.5). -/
def phaseBits (p : Phase) : Word :=
  field 0 3 p.code |||
    match p with
    | .sending index => field 8 6 index
    | .receiving _ _ nibbles => field 8 6 nibbles.length
    | .awaiting waited => field 16 8 waited
    | .restarting => 0

/-- The place of a context in a service queue, 0 for the head (R134). -/
def queuePosition (queue : List CtxNo) (c : CtxNo) : Nat := queue.idxOf c

/-- The progress word of a context (section 11.5). -/
def progressWord (s : State) (c : CtxNo) : Word :=
  match (s.ctx c).body with
  | .queued r => field 24 3 (queuePosition (s.line r.line).queue c)
  | .active _ p => phaseBits p.phase
  | _ => 0

/-- The result word of a context (section 11.5). -/
def resultBits : ContextBody → Word
  | .finished _ _ result =>
    field 0 4 ((result.encStatus.map EncStatus.code).getD 0) ||| flag 4 result.encStatus.isSome |||
      field 8 4 ((result.reason.map FailureReason.code).getD 0) ||| field 16 5 result.data.length
  | _ => 0

/-- The data list of a context, empty until a finish (R134). -/
def ContextBody.data : ContextBody → List Byte
  | .finished _ _ result => result.data
  | _ => []

/-- Four byte places of the data list from place `first` on (section 11.5). -/
def dataWord (data : List Byte) (first : Nat) : Word :=
  field 0 8 (data.getD first 0).toNat ||| field 8 8 (data.getD (first + 1) 0).toNat |||
    field 16 8 (data.getD (first + 2) 0).toNat ||| field 24 8 (data.getD (first + 3) 0).toNat

/-- Word `k` of the context view of context `c` (section 11.5). -/
def contextWord (s : State) (c : CtxNo) (k : Fin 24) : Word :=
  let x := s.ctx c
  match k.val with
  | 0 =>
    field 0 3 x.body.code ||| field 8 8 x.generation.toNat |||
      (match x.body.request? with
       | some r => field 16 3 r.line.val ||| field 20 2 r.op.code
       | none => 0)
  | 1 =>
    match x.body.request? with
    | some r => field 0 8 r.code.toNat ||| opBits r.op
    | none => 0
  | 2 =>
    match x.body.request? with
    | some r =>
      field 0 3 r.attemptLimit.toNat ||| field 8 8 r.replyWindow.toNat ||| field 16 3 x.body.attempts |||
        field 24 6 r.length
    | none => 0
  | 3 => progressWord s c
  | 4 => resultBits x.body
  | 5 => field 0 16 x.body.framesUsed
  | 6 => dataWord x.body.data 0
  | 7 => dataWord x.body.data 4
  | 8 => dataWord x.body.data 8
  | 9 => dataWord x.body.data 12
  | _ => 0

/-! ## The event head view (R164, section 11.5) -/

/-- The detail of an event (section 11.5). -/
def detailWord : EventInfo → Word
  | .cycleDone bank => field 0 1 bank.code
  | .cycleUnpublished bank => field 0 1 bank.code
  | .cycleLatePublish bank => field 0 1 bank.code
  | .cycleOverrun source overruns => field 0 2 source.code ||| field 8 8 overruns
  | .lineState _ state reason => field 0 3 state.code ||| field 8 4 reason.code
  | .notReady _ state => field 0 3 state.code
  | .presetTaken _ => 0
  | .presetDropped _ state => field 0 3 state.code
  | .continuityLost _ age => field 0 8 age
  | .encStatus _ ew => flag 0 ew.err ||| flag 1 ew.wrn
  | .svcFinished _ _ _ kind reason => field 0 3 kind.code ||| field 8 4 ((reason.map FailureReason.code).getD 0)
  | .faultRaised cause => field 0 2 cause.code
  | .softResetDone => 0
  | .lost _ => 0

/-- The ticket of an event (section 11.5). -/
def eventTicketWord : EventInfo → Word
  | .svcFinished _ c generation _ _ => (Ticket.mk c generation).word ||| flag 16 true
  | _ => 0

/-- The count of a LOST event (section 11.5). -/
def eventCountWord : EventInfo → Word
  | .lost count => field 0 16 count
  | _ => 0

/-- Word `k` of the head view (R164, section 11.5). With an empty queue R164 gives the kind NONE, the optional items
absent, detail empty and cycle number 0. DESIGN CHOICE, unsafe (log entry 24): R164 gives that view no class, and bits 10
to 8 of word 0 then read 0, the code of CYCLE. -/
def headWord (head : Option Event) (k : Fin 4) : Word :=
  match head with
  | none => 0
  | some e =>
    match k with
    | 0 =>
      field 0 5 e.info.code ||| field 8 3 e.info.eventClass.code ||| field 12 3 ((e.info.line?.map Fin.val).getD 0) |||
        flag 15 e.info.line?.isSome ||| field 16 16 e.cycle.toNat
    | 1 => eventTicketWord e.info
    | 2 => detailWord e.info
    | 3 => eventCountWord e.info

/-! ## The window (R174, R175) -/

/-- The contents of a word of the window (R175). -/
def windowWord (s : State) : WindowWord → Word
  | .id => Config.idWord
  | .summary => summaryWord s
  | .cmd => s.port.cmd
  | .arg i => s.arg i
  | .cmdResult => s.port.result
  | .cmdValue => s.port.value
  | .cycleConfiguration => cycleConfigWord s.cycle
  | .serviceConfiguration => serviceConfigWord s.service
  | .serviceStatus => serviceStatusWord s
  | .timestamp => s.cycle.timestamp
  | .faultSet => faultWord s.faults
  | .eventHead k => headWord s.events.entries.head? k
  | .eventCount => field 0 6 s.events.entries.length
  | .classMask => maskWord s.events.mask
  | .profile n k => profileWord (s.line n).profile k
  | .lineStatus n k => lineStatusWord (s.line n) k
  | .bankState => bankStateWord s.banks
  | .header k => headerWord s.banks.front s.banks.frontBank.header k
  | .record n k => recordWord s.banks.frontBank.records[n] k
  | .context c k => contextWord s c k
  | .history n slot k => historyWord (s.line n).ring.entries[slot.val]? k
  | .unassigned => 0

/-- A host read: the word's current contents; 0 at an address that the map does not assign, and 0 while RESET is low
(R174, R185). -/
def hostRead (s : State) (address : Address) : Word :=
  if s.resetLow then 0 else windowWord s (decodeAddress address)

end Sys2Proof.Machine
end

