-- ==== Sys2Proof/WellFormed.lean ====
section
/-! DEFINITION. The well-formed commands: each term spells the row of spec/opcode_table.json whose constructor it is. -/

namespace Sys2Proof

/-- A CHECK_OK frame has at most N − 1 = 87 DA samples, and every frame has sample 1 (R10). -/
def maxSamples : Nat := 87

/-- A frame has at least one sample and at most 87 (R10). -/
def sampleCountOk (samples : List Bool) : Bool := 1 ≤ samples.length && samples.length ≤ maxSamples

/-- Whether a term spells its own row: BAD_COMMAND holds no assigned code (R180), REGISTER_WRITE names a word with no
behaviour of its own (R175), and a frame has as many samples as a frame can have (R10). -/
def wellFormed : Instr → Bool
  | .badCommand value => !assignedCommand value
  | .registerWrite address _ => !hasOwnWrite address
  | .probeFrameEnd _ samples => sampleCountOk samples
  | .runningFrameEnd _ samples => sampleCountOk samples
  | .lineEnable _ => true
  | .lineDisable => true
  | .lineRestart _ => true
  | .cycleStart => true
  | .cycleStop => true
  | .trigger => true
  | .bankHold => true
  | .bankRelease => true
  | .setPreset => true
  | .cancelPreset => true
  | .ackContinuity => true
  | .svcOpen => true
  | .svcCancel => true
  | .svcRelease => true
  | .eventPop => true
  | .eventFlush => true
  | .faultClear => true
  | .softReset => true
  | .profileWrite _ _ _ => true
  | .cycleConfigurationWrite _ => true
  | .serviceConfigurationWrite _ => true
  | .classMaskWrite _ => true
  | .syncEdge => true
  | .timerExpiry => true
  | .hardwareReset => true
  | .resetRelease => true
  | .endOfRecovery _ => true
  | .recoveryLimitExpiry _ => true
  | .timestampCounterTick => true

end Sys2Proof
end

