-- ==== Sys2Proof/Safety.lean ====
section
/-! DEFINITION. The laws of the device in the terms that claims use, and the timing under which an environment sends its
events. Every law is decidable, so that a test can evaluate it. -/

namespace Sys2Proof.Machine

/-! ## Events and faults -/

/-- Whether an entry is a LOST entry. -/
def Event.isLost (e : Event) : Bool :=
  match e.info with
  | .lost _ => true
  | _ => false

/-- The law of R160: the queue holds at most 32 entries, and a queue of 32 has a LOST entry at its tail. -/
abbrev EventLaw (s : State) : Prop :=
  s.events.entries.length ≤ Config.queueCapacity ∧
    (s.events.entries.length = Config.queueCapacity → (s.events.entries.getLast?.map Event.isLost) = some true)

/-- The fault cause set holds no cause twice (R168). -/
abbrev FaultLaw (s : State) : Prop := s.faults.Nodup

/-! ## Lines -/

/-- The line controller's law for one line (R23, R24, R30, R40, R41, R44): the health counts lie below their thresholds,
a line out of service has no frame, no wait and no armed preset, the sub-state tells of the frame and of the wait, and a
line that is not OFF has the profile that LINE_ENABLE validated, with which its frame in flight was asked for. -/
abbrev Line.Law (l : Line) : Prop :=
  (l.state = .run → l.failures < l.profile.degradeThreshold.toNat ∧ l.goodRun = 0) ∧
  (l.state = .degraded →
    l.failures < l.profile.lostThreshold.toNat ∧ l.goodRun < l.profile.recoverCount.toNat) ∧
  (l.state = .probing →
    l.failures = 0 ∧ l.goodRun < l.profile.probeGood.toNat ∧ l.probeFrames < Config.probeLimit) ∧
  (l.state.inService = false → l.sub = .none ∧ l.link.watch = .none ∧ l.pos.preset = none) ∧
  (l.state.inService = true → l.sub ≠ .none) ∧
  (l.sub = .frame ↔ l.link.frame.isSome = true) ∧
  (l.sub = .recovery ↔ l.waited.isSome = true) ∧
  (l.disablePending = true → l.sub = .frame) ∧
  (l.state ≠ .off → firstFailingCheck l.profile = none) ∧
  (∀ f ∈ l.link.frame, f.multiturn = l.profile.multiturn ∧ f.singleturn = l.profile.singleturn)

/-- The line controllers' law (R23). -/
abbrev LineLaw (s : State) : Prop := ∀ n : LineNo, (s.line n).Law

/-- The position unit's law for one line (R50): an unanchored line is clear but for a preset and a reference, and on an
anchored line continuity is not NONE and E modulo 2^W equals r_prev. -/
abbrev Line.AnchorLaw (l : Line) : Prop :=
  (l.pos.anchored = false →
    l.pos.offset = 0 ∧ l.pos.continuity = .none ∧ l.pos.extended = 0 ∧ l.pos.rPrev = 0 ∧ l.pos.age = 255) ∧
  (l.pos.anchored = true →
    l.pos.continuity ≠ .none ∧ l.pos.extended.toNat % 2 ^ l.profile.width = l.pos.rPrev.toNat) ∧
  l.pos.age ≤ 255

/-- The position units' law (R50). -/
abbrev AnchorLaw (s : State) : Prop := ∀ n : LineNo, (s.line n).AnchorLaw

/-! ## Rings and banks -/

/-- Which items a sample entry holds follows from its status (R106). -/
abbrev SampleEntry.Law (e : SampleEntry) : Prop :=
  e.status ≠ .notSampled ∧
  (e.extended.isSome = true ↔ e.status = .good) ∧
  (e.errWrn.isSome = true ↔ e.status = .good ∨ e.status = .encError ∨ e.status = .jump) ∧
  (e.latency.isSome = true ↔ e.status ≠ .noResponse ∧ e.status ≠ .missed)

/-- The history rings' law: at most sixteen entries, none of them NOT_SAMPLED, each with the items of its status (R104,
R105, R106). -/
abbrev RingLaw (s : State) : Prop :=
  ∀ n : LineNo, (s.line n).ring.entries.length ≤ Config.ringDepth ∧ ∀ e ∈ (s.line n).ring.entries, e.Law

/-- Velocity is present in a record only when its status is GOOD and its continuity VALID (R113). -/
abbrev LineRecord.Law (r : LineRecord) : Prop := r.velocity.isSome = true → r.status = .good ∧ r.continuity = .valid

/-- The law of R113 for both banks. -/
abbrev VelocityLaw (s : State) : Prop := ∀ n : LineNo, (s.banks.a.records[n]).Law ∧ (s.banks.b.records[n]).Law

/-- The cycle and bank law (R79, R82, R91): the back bank is FILLING exactly while a cycle is ACTIVE, HELD only with
HOLD set, and the outstanding lines are exactly the running lines with a frame in flight, some while the cycle is ACTIVE
and none while it is IDLE; they are lines of the participating set, which is in ascending order. -/
abbrev CycleLaw (s : State) : Prop :=
  (s.banks.backStatus = .filling ↔ s.cycle.state = .active) ∧
  (s.banks.backStatus = .held → s.banks.hold = true) ∧
  (s.cycle.state = .active ↔ s.cycle.outstanding ≠ []) ∧
  (∀ n : LineNo, n ∈ s.cycle.outstanding ↔ (s.line n).running = true ∧ (s.line n).sub = .frame) ∧
  (∀ n ∈ s.cycle.outstanding, n ∈ s.cycle.participating) ∧
  s.cycle.participating.Pairwise (· < ·)

/-! ## Service contexts -/

/-- The number of data bytes that a finished context holds (R118): count for a DONE READ with status OK, else none. -/
def dataCount (r : Request) (result : Result) : Nat :=
  match result.kind, result.encStatus, r.op with
  | .done, some .ok, .read count => count
  | _, _, _ => 0

/-- The reply being received has the length that its status and op give, and is not yet whole (R147, R148). -/
def Phase.lawful (r : Request) : Phase → Bool
  | .receiving status expected nibbles =>
    expected = expectedReply status r.op && 1 ≤ nibbles.length && nibbles.length < expected
  | _ => true

/-- The law of R118 for one context: a DONE READ with status OK holds exactly count bytes, and every other finished
context none. -/
def Context.lawful (x : Context) : Bool :=
  match x.body with
  | .active r p => p.phase.lawful r
  | .finished r _ result => result.data.length = dataCount r result
  | _ => true

/-- The law of R118 for the four contexts. -/
abbrev DataLaw (s : State) : Prop := ∀ c : CtxNo, (s.ctx c).lawful = true

/-- The line of a QUEUED context. -/
def ContextBody.queuedOn : ContextBody → Option LineNo
  | .queued r => some r.line
  | _ => none

/-- The line of an ACTIVE context. -/
def ContextBody.activeOn : ContextBody → Option LineNo
  | .active r _ => some r.line
  | _ => none

/-- The queue law (R123): a context stands in a line's queue exactly when it is QUEUED for that line, and once. -/
abbrev QueueLaw (s : State) : Prop :=
  ∀ n : LineNo, (s.line n).queue.Nodup ∧ ∀ c : CtxNo, c ∈ (s.line n).queue ↔ (s.ctx c).body.queuedOn = some n

/-- The law of R124: no two contexts are ACTIVE on one line, and a line with an ACTIVE context is in RUN or DEGRADED;
and a line with a QUEUED context is in service (R126, R153). -/
abbrev ActiveLaw (s : State) : Prop :=
  (∀ c c' : CtxNo, ∀ n : LineNo,
    (s.ctx c).body.activeOn = some n → (s.ctx c').body.activeOn = some n → c = c') ∧
  (∀ c : CtxNo, ∀ n : LineNo, (s.ctx c).body.activeOn = some n → (s.line n).running = true) ∧
  (∀ c : CtxNo, ∀ n : LineNo, (s.ctx c).body.queuedOn = some n → (s.line n).state.inService = true)

/-! ## Timing -/

/-- Whether an event that the part times itself comes no earlier than the µs that it has counted allow: a timer expiry
when a period has been counted (R74), a recovery-limit expiry when the recovery limit has been waited (R39), an end of
recovery when the port observes DA (R13). At any other time it cannot come, and changes nothing (log entry 6). -/
def timely (c : Instr) (s : State) : Bool :=
  match c with
  | .timerExpiry => s.cycle.expires
  | .recoveryLimitExpiry n => (s.line n).limitReached
  | .endOfRecovery n => (s.line n).observesDa
  | _ => true

/-- Whether a command resets the part: the two rows of the RESET input and SOFT_RESET (R184, R185). -/
def isReset : Instr → Bool
  | .softReset => true
  | .hardwareReset => true
  | .resetRelease => true
  | _ => false

/-! ## Vocabulary of the claims -/

/-- ARG0 names line `n`. -/
abbrev State.names (s : State) (n : LineNo) : Prop := (s.arg 0).toNat = n.val

/-- A command answered: CMD holds what was written to it, and the answer words hold its result and its value (R180). -/
def State.answered (s : State) (cmd result value : Word) : State :=
  { s with port := { s.port with cmd := cmd, result := result, value := value } }

/-- The queue after the posts of a list of events, all at one cycle number. -/
def postAll (infos : List EventInfo) (cycle : BitVec 16) (entries : List Event) : List Event :=
  infos.foldl (fun q i => postEntry i cycle q) entries

/-- The state after the posts of a list of events. -/
def State.posted (s : State) (infos : List EventInfo) : State :=
  s.setEntries (postAll infos s.cycle.number s.events.entries)

/-- A running frame `f` of line `n` is in flight, with RESET high. -/
abbrev RunningFrame (s : State) (n : LineNo) (f : Frame) : Prop :=
  s.resetLow = false ∧ (s.line n).running = true ∧ (s.line n).sub = .frame ∧ (s.line n).link.frame = some f

/-- A probe frame `f` of line `n` is in flight, with RESET high. -/
abbrev ProbeFrame (s : State) (n : LineNo) (f : Frame) : Prop :=
  s.resetLow = false ∧ (s.line n).state = .probing ∧ (s.line n).sub = .frame ∧ (s.line n).link.frame = some f

/-- The invariant that every step keeps: the laws of the device together. -/
abbrev Invariant (s : State) : Prop :=
  EventLaw s ∧ FaultLaw s ∧ LineLaw s ∧ AnchorLaw s ∧ RingLaw s ∧ VelocityLaw s ∧ CycleLaw s ∧ DataLaw s ∧
    QueueLaw s ∧ ActiveLaw s

end Sys2Proof.Machine
end

