-- ==== Sys2Proof/Certificates/Slice0/Obligations.lean ====
section
/-! DEFINITION. The statements for the provers. Each docstring names the rules that a statement formalises. A statement
about a command's effect holds while RESET is high; what holds while RESET is low is NothingIsTakenWhileResetIsLow. -/

namespace Sys2Proof.Machine

/-! ## What the statements expect, written from the spec -/

/-- The parameters of a probe frame of a line (R8, R33). -/
def expectedProbeFrame (l : Line) : Frame :=
  { slot := .idle, deadline := 31, multiturn := l.profile.multiturn, singleturn := l.profile.singleturn,
    rate := l.profile.rate }

/-- A line right after its entry to PROBING with DA at a level (R29). -/
def expectedProbingLine (l : Line) (da : Bool) : Line :=
  { l with
    state := .probing
    failures := 0
    goodRun := 0
    probeFrames := 0
    disablePending := false
    pos := { l.pos with age := if l.pos.anchored then 255 else l.pos.age }
    sub := if da then .frame else .recovery
    waited := if da then none else some 0
    link :=
      if da then { frame := some (expectedProbeFrame l), watch := .none, da := true }
      else { frame := l.link.frame, watch := .observing, da := false } }

/-- A line right after a frame end with a result, before its judgement (R13, R24, R33, R36). That the level of DA that the
port keeps is low from a frame end is the model's choice (log entry 9): R13 gives none, and after NO_ACK DA is normally
high. -/
def expectedFrameEnd (l : Line) (result : FrameResult) : Line :=
  { l with
    sub := .recovery
    waited := some 0
    link := { frame := none, watch := .disregarding 2, da := false }
    lastOutcome := some result.outcome
    lastLatency := result.latency
    lastErrWrn := if result.errWrn.isSome then result.errWrn else l.lastErrWrn }

/-- One bit into a CRC register: the feedback bit is the top bit exclusive-or the bit, the register shifts one place
towards its top with 0 entering bit 0, and a feedback bit of 1 adds the generator (R11, R18). -/
def crcIn {w : Nat} (generator register : BitVec w) (bit : Bool) : BitVec w :=
  (register <<< 1) ^^^ (if (register.getLsbD (w - 1) ^^ bit) then generator else 0)

/-- The status that each status nibble of a reply stands for; none from 0x6 to 0xF (R20). -/
def expectedEncStatus (d : Nibble) : Option EncStatus :=
  if d = 0x0 then some .ok
  else if d = 0x1 then some .badAddress
  else if d = 0x2 then some .readOnly
  else if d = 0x3 then some .busy
  else if d = 0x4 then some .requestCheck
  else if d = 0x5 then some .unknownOp
  else none

/-- The condition that each numbered check of LINE_ENABLE asks of a profile (R27). -/
def expectedCheck (p : Profile) (k : Nat) : Prop :=
  match k with
  | 1 => 8 ≤ p.singleturn.toNat ∧ p.singleturn.toNat ≤ 30
  | 2 => p.multiturn.toNat ≤ 20
  | 3 => p.singleturn.toNat + p.multiturn.toNat ≤ 40
  | 4 => p.rate.toNat ≤ 4
  | 5 => p.slack.toNat ≤ 7
  | 6 => 2 ≤ p.recoveryLimit.toNat ∧ p.recoveryLimit.toNat ≤ 255
  | 7 => 4 ≤ p.probeGood.toNat ∧ p.probeGood.toNat ≤ 64
  | 8 => 1 ≤ p.degradeThreshold.toNat ∧ p.degradeThreshold.toNat ≤ 15
  | 9 => 2 ≤ p.lostThreshold.toNat ∧ p.lostThreshold.toNat ≤ 63
  | 10 => p.degradeThreshold.toNat < p.lostThreshold.toNat
  | 11 => 1 ≤ p.recoverCount.toNat ∧ p.recoverCount.toNat ≤ 15
  | 12 => 1 ≤ p.jumpLimit.toNat ∧ p.jumpLimit.toNat ≤ 2 ^ (p.singleturn.toNat + p.multiturn.toNat - 1)
  | 13 => 1 ≤ p.gapLimit.toNat ∧ p.gapLimit.toNat ≤ 255
  | 14 => p.velocityWindow.toNat = 1 ∨ p.velocityWindow.toNat = 2 ∨ p.velocityWindow.toNat = 4 ∨
      p.velocityWindow.toNat = 8
  | _ => True

/-! ### A line leaves service -/

/-- The state that a line enters when it leaves service, and the reason with which its contexts fail (R32, R153). -/
def enteredState : Departure → LineState × FailureReason
  | .off => (.off, .lineOff)
  | .lost => (.lost, .lineLost)

/-- The SVC_FINISHED events of contexts that a departure fails, in the order given (R129, R153). -/
def failedEvents (s : State) (reason : FailureReason) (contexts : List CtxNo) : List EventInfo :=
  contexts.filterMap fun c =>
    match (s.ctx c).body.request? with
    | some r => some (.svcFinished r.line c (s.ctx c).generation .failed (some reason))
    | none => none

/-- A context after the departure of line `n`: an ACTIVE one of the line is FAILED with frames used as it stood, a QUEUED
one of the line with frames used 0, and any other is as it was (R153). -/
def failedContext (n : LineNo) (reason : FailureReason) (x : Context) : Context :=
  let failed (framesUsed : Nat) : Result :=
    { kind := .failed, encStatus := none, data := [], reason := some reason, framesUsed := framesUsed }
  match x.body with
  | .active r p => if r.line = n then { x with body := .finished r p.attempts (failed p.framesUsed) } else x
  | .queued r => if r.line = n then { x with body := .finished r 0 (failed 0) } else x
  | _ => x

/-- The cause that an entry to LOST of a SAFETY line adds to a fault cause set (R32, R169). -/
def departCauses (s : State) (n : LineNo) (d : Departure) : List FaultCause :=
  if d = .lost ∧ (s.line n).profile.safety = true ∧ .lineLost n ∉ s.faults then [.lineLost n] else []

/-- The events of an entry to OFF or LOST, in order: LINE_STATE; the SVC_FINISHED of the line's ACTIVE context and then of
its QUEUED ones from the head; PRESET_DROPPED of an `armed` preset; and FAULT_RAISED of a new cause LINE_LOST (R32, R65,
R153, R169). -/
def departEvents (s : State) (n : LineNo) (d : Departure) (why : LineReason) (armed : Bool) : List EventInfo :=
  [.lineState n (enteredState d).1 why] ++
    failedEvents s (enteredState d).2 ((s.activeCtx n).toList ++ (s.line n).queue) ++
    (if armed then [.presetDropped n (enteredState d).1] else []) ++ (departCauses s n d).map .faultRaised

/-- The whole state after an entry of line `n` to OFF or LOST: the line out of service with no sub-state, wait, watch,
queue, ABORT owed or preset, and its anchor state, counts and profile kept; its contexts failed; the cause of a SAFETY
line raised; and the events posted (R13, R32, R65, R153, R169). -/
def departed (n : LineNo) (d : Departure) (why : LineReason) (s : State) : State :=
  let l := s.line n
  { s.setLine n { l with
      state := (enteredState d).1, sub := .none, waited := none, link := { l.link with watch := .none },
      queue := [], abortOwed := false, pos := { l.pos with preset := none } } with
    service := { s.service with contexts := s.service.contexts.map (failedContext n (enteredState d).2) }
    faults := s.faults ++ departCauses s n d
    events := { s.events with
      entries := postAll (departEvents s n d why l.pos.preset.isSome) s.cycle.number s.events.entries } }

/-- The state after a frame end that left `s`: with disable-pending set the flag is cleared and the line enters OFF behind
all that the frame did (R31). -/
def afterDeferred (n : LineNo) (s : State) : State :=
  if (s.line n).disablePending then
    departed n .off .disabled (s.setLine n { s.line n with disablePending := false })
  else s

/-- The events of an entry to OFF by LINE_DISABLE: LINE_STATE, the SVC_FINISHED of the ACTIVE and the QUEUED contexts,
and PRESET_DROPPED (R32, R65, R153). -/
def expectedDisableEvents (s : State) (n : LineNo) : List EventInfo :=
  departEvents s n .off .disabled (s.line n).pos.preset.isSome

/-! ### Lines and their frames -/

/-- The frame of an event of line `n`: the other lines, the command port, RESET, the class mask, HOLD, the service
configuration, and the contexts that are neither ACTIVE on the line nor in its queue are as they were; every fault cause
stays, and a new one names the line. -/
def OnlyLine (n : LineNo) (s t : State) : Prop :=
  (∀ m, m ≠ n → t.line m = s.line m) ∧ t.port = s.port ∧ t.resetLow = s.resetLow ∧
    t.events.mask = s.events.mask ∧ t.banks.hold = s.banks.hold ∧
    t.service = { s.service with contexts := t.service.contexts } ∧
    (∀ c, (s.ctx c).body.activeOn ≠ some n → c ∉ (s.line n).queue → t.ctx c = s.ctx c) ∧
    (∀ x, x ∈ s.faults → x ∈ t.faults) ∧ (∀ x, x ∈ t.faults → x ∈ s.faults ∨ x.line? = some n)

/-- The line state, the failure count and the good run after a sample is counted; the failure count saturates at 63 (R40,
R41). -/
def expectedHealth (l : Line) (good : Bool) : LineState × Nat × Nat :=
  match l.state, good with
  | .run, true => (.run, 0, 0)
  | .run, false =>
    (if l.profile.degradeThreshold.toNat ≤ min 63 (l.failures + 1) then .degraded else .run, min 63 (l.failures + 1), 0)
  | .degraded, true =>
    if l.profile.recoverCount.toNat ≤ l.goodRun + 1 then (.run, 0, 0) else (.degraded, l.failures, l.goodRun + 1)
  | .degraded, false =>
    (if l.profile.lostThreshold.toNat ≤ min 63 (l.failures + 1) then .lost else .degraded, min 63 (l.failures + 1), 0)
  | other, _ => (other, l.failures, l.goodRun)

/-- A running frame of line `n` ends CHECK_OK with ERR clear: its samples make a result with a raw value. -/
abbrev JudgedFrame (s : State) (n : LineNo) (samples : List Bool) (l raw : Nat) (ew : ErrWrn) (reply : Slot) : Prop :=
  (∃ f, RunningFrame s n f ∧ judgeFrame f samples = .checkOk l raw ew reply) ∧ ew.err = false

/-- The decoded raw value of a sample of line `n`. -/
abbrev decodedOf (s : State) (n : LineNo) (raw : Nat) : Nat := decodeRaw (s.line n).profile raw

/-- The signed difference that a sample of line `n` brings (R55). -/
abbrev deltaOf (s : State) (n : LineNo) (raw : Nat) : Int :=
  signedDelta (s.line n).profile.width (s.line n).pos.rPrev.toNat (decodedOf s n raw)

/-- Whether a sample of line `n` comes after a gap (R56). -/
abbrev gapOf (s : State) (n : LineNo) : Prop :=
  (s.line n).profile.gapLimit.toNat < (s.line n).pos.age ∨ (s.line n).pos.age = 255

/-- The sample status of a running frame (R37): of a CHECK_OK frame with ERR clear it is JUMP when the line is anchored,
the sample comes after no gap and its movement exceeds the jump limit (R57), and GOOD otherwise (R53). -/
def expectedStatus (s : State) (n : LineNo) : FrameResult → SampleStatus
  | .noAck => .noResponse
  | .noStart => .noResponse
  | .checkFail _ => .checkFail
  | .checkOk _ raw ew _ =>
    if ew.err then .encError
    else if (s.line n).pos.anchored = true ∧ ¬gapOf s n ∧
        (s.line n).profile.jumpLimit.toNat < (deltaOf s n raw).natAbs then .jump
    else .good

/-- The health of line `n` after a running frame with a result (R40, R41). -/
abbrev healthAfter (s : State) (n : LineNo) (result : FrameResult) : LineState × Nat × Nat :=
  expectedHealth (s.line n) (expectedStatus s n result = .good)

/-- Whether a running frame ends VALID continuity: a gap sample on an anchored line (R56, R60). -/
abbrev EndsContinuity (s : State) (n : LineNo) (result : FrameResult) : Prop :=
  expectedStatus s n result = .good ∧ (s.line n).pos.anchored = true ∧ gapOf s n ∧ (s.line n).pos.continuity = .valid

/-- The cause that a running frame of a SAFETY line adds by ending VALID continuity (R60, R169). -/
def continuityCauses (s : State) (n : LineNo) (result : FrameResult) : List FaultCause :=
  if EndsContinuity s n result ∧ (s.line n).profile.safety = true ∧ .continuity n ∉ s.faults then [.continuity n] else []

/-- The events of the position unit at a running frame end, in order: ENC_STATUS of a CHECK_OK frame whose ERR and WRN
differ from the reference, CONTINUITY_LOST with its FAULT_RAISED, and PRESET_TAKEN (R60, R63, R67, R68). -/
def positionEvents (s : State) (n : LineNo) (result : FrameResult) : List EventInfo :=
  (match result.errWrn with
    | none => []
    | some ew => if (s.line n).pos.reference = ew then [] else [.encStatus n ew]) ++
  (if EndsContinuity s n result then [.continuityLost n (s.line n).pos.age] else []) ++
  (continuityCauses s n result).map .faultRaised ++
  (if expectedStatus s n result = .good ∧ (s.line n).pos.preset.isSome then [.presetTaken n] else [])

/-- The SVC_FINISHED of an ACTIVE context that the service engine's work at a frame end finishes (R129, R142). -/
def serviceEvents (s : State) (n : LineNo) (result : FrameResult) : List EventInfo :=
  match s.activeCtx n with
  | none => []
  | some c =>
    match ((serviceFrameEnd n result s).ctx c).body with
    | .finished _ _ x => [.svcFinished n c (s.ctx c).generation x.kind x.reason]
    | _ => []

/-- The events of the health counting at a running frame end: one LINE_STATE for a change of the line state, and all that
an entry to LOST posts (R32, R40 to R42). -/
def healthEvents (s : State) (n : LineNo) (result : FrameResult) : List EventInfo :=
  if (healthAfter s n result).1 = (s.line n).state then []
  else
    match (healthAfter s n result).1 with
    | .run => [.lineState n .run .recovered]
    | .degraded => [.lineState n .degraded .degraded]
    | .lost => departEvents (serviceFrameEnd n result s) n .lost .failures (s.line n).pos.preset.isSome
    | _ => []

/-- The event of the completion that a running frame end makes as the last of its cycle (R83, R96, R97). -/
def completionEvents (s : State) (n : LineNo) : List EventInfo :=
  if s.cycle.state = .active ∧ n ∈ s.cycle.outstanding ∧ s.cycle.outstanding.filter (· ≠ n) = [] then
    [if s.banks.hold then .cycleUnpublished s.banks.backId else .cycleDone s.banks.backId]
  else []

/-- The events of a deferred disable behind a running frame end: LINE_STATE with reason DISABLED, and, unless the frame
took the line to LOST before, the contexts that are left and a preset that the frame did not take (R31, R32, R83). -/
def deferredEvents (s : State) (n : LineNo) (result : FrameResult) : List EventInfo :=
  if (s.line n).disablePending = false then []
  else if (healthAfter s n result).1 = .lost then [.lineState n .off .disabled]
  else
    departEvents (serviceFrameEnd n result s) n .off .disabled
      (expectedStatus s n result ≠ .good ∧ (s.line n).pos.preset.isSome)

/-- The offset, the continuity and the preset after a trusted sample: an armed preset is taken, so that the axis
position is its value and continuity is VALID; otherwise the offset is kept and continuity is as judged (R63). -/
def presetSettled (before after : PositionUnit) (judged : Continuity) : Prop :=
  match before.preset with
  | none => after.offset = before.offset ∧ after.continuity = judged ∧ after.preset = none
  | some value => after.axis = some value ∧ after.continuity = .valid ∧ after.preset = none

/-- The record of a line written at a cycle start, initialised or MISSED, with the AGE advanced (R80, R93). -/
def startRecord (l : Line) (status : SampleStatus) (age : Nat) : LineRecord :=
  { state := l.state, status := status, errWrn := none, latency := none,
    axis := if l.pos.anchored then some (l.pos.extended + l.pos.offset) else none, age := age,
    continuity := l.pos.continuity, velocity := none, presetArmed := l.pos.preset.isSome }

/-- What a cycle start from a trigger leaves, whether or not the cycle completes at once (R52, R78 to R80, R92, R93):
the numbering, the sets and the header; the frame of every participating line with the request slot that the service
engine chooses, and its queue, its slot in flight and its contexts as that choice leaves them (R139 to R141); the record
and the entry of every missed line; and the initialised record of every other line, a participating one too. -/
def CycleStarted (source : TriggerSource) (s t : State) : Prop :=
  t.cycle = { s.cycle with
    number := s.cycle.number + 1, state := t.cycle.state, timer := t.cycle.timer,
    participating := allLines.filter (fun n => (s.line n).participates),
    outstanding := allLines.filter (fun n => (s.line n).participates) } ∧
  (∀ n, (t.line n).pos =
    { (s.line n).pos with age := if (s.line n).pos.age < 255 then (s.line n).pos.age + 1 else 255 }) ∧
  (let back := t.banks.bank s.banks.backId
   back.header.cycle = s.cycle.number + 1 ∧ back.header.source = source ∧
   back.header.triggered = s.cycle.timestamp ∧ back.header.overruns = 0 ∧
   back.header.participating = t.cycle.participating ∧ back.header.publication = .onTime) ∧
  (∀ n, (s.line n).participates = true →
    ∃ slot, (QueueLaw s → slot = (chooseSlot n s).1) ∧
      t.line n = { s.line n with
        sub := .frame, pos := (t.line n).pos, queue := (t.line n).queue, slot := (t.line n).slot,
        link := { (s.line n).link with
          watch := .none
          frame := some
            { slot := slot, deadline := min 31 ((s.line n).lMeas + (s.line n).profile.slack.toNat),
              multiturn := (s.line n).profile.multiturn, singleturn := (s.line n).profile.singleturn,
              rate := (s.line n).profile.rate } } } ∧
      (t.banks.bank s.banks.backId).records[n] = startRecord (s.line n) .notSampled (t.line n).pos.age) ∧
  (∀ n, (s.line n).running = true → (s.line n).participates = false →
    t.line n = { s.line n with
      pos := (t.line n).pos
      ring := (s.line n).ring.append
        { cycle := s.cycle.number + 1, status := .missed, extended := none, errWrn := none, latency := none } } ∧
    (t.banks.bank s.banks.backId).records[n] = startRecord (s.line n) .missed (t.line n).pos.age) ∧
  (∀ n, (s.line n).running = false →
    t.line n = { s.line n with pos := (t.line n).pos } ∧
    (t.banks.bank s.banks.backId).records[n] = startRecord (s.line n) .notSampled (t.line n).pos.age) ∧
  t.banks.bank s.banks.front = s.banks.frontBank ∧ t.banks.hold = s.banks.hold ∧ t.faults = s.faults ∧
  t.resetLow = s.resetLow ∧ t.events.mask = s.events.mask ∧
  t.service = { s.service with contexts := t.service.contexts } ∧
  (QueueLaw s →
    (∀ n, (s.line n).participates = true →
      (t.line n).queue = ((chooseSlot n s).2.line n).queue ∧ (t.line n).slot = ((chooseSlot n s).2.line n).slot ∧
      ∀ c, (s.ctx c).body.activeOn = some n ∨ (s.ctx c).body.queuedOn = some n → t.ctx c = (chooseSlot n s).2.ctx c) ∧
    (∀ c, (∀ n, (s.line n).participates = true →
        (s.ctx c).body.activeOn ≠ some n ∧ (s.ctx c).body.queuedOn ≠ some n) → t.ctx c = s.ctx c))

/-- What a cycle start leaves while its cycle has not completed: ACTIVE, with every participating line outstanding and
the back bank FILLING behind the same front, and nothing posted (R79, R80, R91). -/
def CycleRunning (s t : State) : Prop :=
  t.cycle.state = .active ∧ t.banks.backStatus = .filling ∧ t.banks.front = s.banks.front ∧
    t.banks.backBank.header.completed = 0 ∧ t.events = s.events

/-- What a cycle start leaves when no line participates: the cycle unit IDLE, the two timestamps equal, and the bank
published with HOLD clear and held with HOLD set (R84, R96, R97). -/
def EmptyCycleCompleted (s t : State) : Prop :=
  t.cycle.state = .idle ∧ t.cycle.outstanding = [] ∧
  (t.banks.bank s.banks.backId).header.completed = s.cycle.timestamp ∧
  (t.banks.bank s.banks.backId).header.triggered = s.cycle.timestamp ∧
  (s.banks.hold = false →
    t.banks.front = s.banks.backId ∧ t.banks.backStatus = .stale ∧
    t.events.entries = postEntry (.cycleDone s.banks.backId) (s.cycle.number + 1) s.events.entries) ∧
  (s.banks.hold = true →
    t.banks.front = s.banks.front ∧ t.banks.backStatus = .held ∧
    t.events.entries = postEntry (.cycleUnpublished s.banks.backId) (s.cycle.number + 1) s.events.entries)

/-- ARG1 to ARG3 give a service request with op `op` that passes check 2 of SVC_OPEN (R126). -/
abbrev RequestFits (s : State) (op : SvcOp) : Prop :=
  (s.arg 2).toNat ≤ 255 ∧
  ((s.arg 1 = 1 ∧ 1 ≤ (s.arg 3).toNat ∧ (s.arg 3).toNat ≤ 16 ∧ op = .read (s.arg 3).toNat) ∨
    (s.arg 1 = 2 ∧ (s.arg 3).toNat ≤ 255 ∧ op = .write ((s.arg 3).extractLsb' 0 8)) ∨
    (s.arg 1 = 3 ∧ op = .command))

/-- The failure reason of an attempt at a frame end, by the phase of its context and what the frame brought (R144 to
R149); none where the attempt goes on or succeeds. -/
def expectedFailure (r : Request) (phase : Phase) (result : FrameResult) : Option FailureReason :=
  match phase, result.reply with
  | .restarting, _ => none
  | _, none => some .link
  | _, some .abort => some .slaveAbort
  | .sending _, some _ => none
  | .awaiting waited, some .idle => if waited + 1 = r.replyWindow.toNat then some .noReply else none
  | .awaiting _, some (.following _) => some .framing
  | .awaiting _, some (.first d) => if 6 ≤ d.toNat then some .framing else none
  | .receiving _ _ _, some .idle => some .framing
  | .receiving _ _ _, some (.first _) => some .framing
  | .receiving status expected nibbles, some (.following d) =>
    if nibbles.length + 1 = expected then
      if d ≠ crc4 nibbles then some .replyCheck
      else if status = .busy then some .encBusy
      else if status = .requestCheck then some .encCheck
      else none
    else none

/-- The encoder status that a failed attempt's result holds (R151). -/
def expectedFailureStatus : FailureReason → Option EncStatus
  | .encBusy => some .busy
  | .encCheck => some .requestCheck
  | _ => none

/-- Whether a failed attempt makes its line owe an ABORT (R150). -/
def expectedOwes (reason : FailureReason) : Bool :=
  reason = .link || reason = .noReply || reason = .framing || reason = .slaveAbort

/-- Context `c` is ACTIVE on line `n`, found there, with its request and progress. -/
abbrev ActiveOn (s : State) (n : LineNo) (c : CtxNo) (r : Request) (p : Progress) : Prop :=
  s.activeCtx n = some c ∧ (s.ctx c).body = .active r p ∧ r.line = n

/-- Frames used counted once more, saturating at 65535 (R118, R142). -/
def framesCounted (p : Progress) : Nat := if p.framesUsed < 65535 then p.framesUsed + 1 else 65535

/-- The default profile (R25). -/
def expectedProfile : Profile :=
  { singleturn := 20, multiturn := 0, reflected := false, invert := false, safety := false, rate := 2, slack := 2,
    recoveryLimit := 40, probeGood := 8, velocityWindow := 1, degradeThreshold := 2, lostThreshold := 8,
    recoverCount := 4, gapLimit := 4, jumpLimit := 262144 }

/-- A line after either reset, with a level of DA, which is the model's own (log entry 9) (R14, R46, R69, R112, R137, R138). -/
def expectedResetLine (da : Bool) : Line :=
  { profile := expectedProfile, state := .off, sub := .none, failures := 0, goodRun := 0, probeFrames := 0, lMeas := 0,
    disablePending := false, lastOutcome := none, lastLatency := none, lastErrWrn := none, writeIgnored := false,
    waited := none, link := { frame := none, watch := .none, da := da },
    pos := { anchored := false, rPrev := 0, extended := 0, offset := 0, continuity := .none, age := 255, preset := none,
             reference := ⟨false, false⟩ },
    ring := { entries := [], sequence := 0 }, queue := [], abortOwed := false, slot := .none }

/-- A bank after either reset (R103). -/
def expectedResetBank : Bank :=
  { header := { cycle := 0, source := .host, triggered := 0, completed := 0, overruns := 0, participating := [],
                publication := .onTime },
    records := Vector.replicate 8
      { state := .off, status := .notSampled, errWrn := none, latency := none, axis := none, age := 255,
        continuity := .none, velocity := none, presetArmed := false } }

/-- What both resets leave in every block but the event queue and the command port (R46, R69, R87, R103, R112, R121, R137,
R173, R185). That the levels of DA and the waiting commands are kept is the model's choice (log entries 1 and 9). -/
def BlocksAreReset (s t : State) : Prop :=
  t.resetLow = false ∧ t.faults = [.reset] ∧ t.pending = s.pending ∧
    t.cycle =
      { run := .stopped, state := .idle, number := 0, participating := [], outstanding := [], timer := .stopped,
        timestamp := 0, sourceCode := 0, period := 1000, configIgnored := false } ∧
    t.banks = { a := expectedResetBank, b := expectedResetBank, front := .a, backStatus := .stale, hold := false } ∧
    t.service =
      { contexts := Vector.replicate 4 { generation := 0, body := .free }, attemptLimit := 3, replyWindow := 32,
        configIgnored := false } ∧
    ∀ n, t.line n = expectedResetLine (s.line n).link.da

/-- The words that read the same after either reset, the default profile of every line among them (R178, R179, R185). -/
def WindowIsReset (t : State) : Prop :=
  hostRead t 0x000 = 0x0D5C0801 ∧ hostRead t 0x00A = 0 ∧ hostRead t 0x010 = 0x03E80000 ∧ hostRead t 0x011 = 0x2003 ∧
    hostRead t 0x012 = 0 ∧ hostRead t 0x018 = 1 ∧ hostRead t 0x025 = 0x10 ∧ hostRead t 0x0C0 = 0 ∧
    ∀ (n : LineNo) (k : Fin 5),
      hostRead t (BitVec.ofNat 10 (0x040 + 8 * n.val + k.val)) =
        (match k with
          | 0 => 0x00000014#32
          | 1 => 0x01082822#32
          | 2 => 0x04040802#32
          | 3 => 0x00040000#32
          | 4 => 0x00000000#32)

/-- Frames of line `n` run one after the other for the service engine: the request slot chosen, and the reply slot of a
CHECK_OK frame taken (R139, R142). -/
def runFrames (n : LineNo) : List Slot → State → State
  | [], s => s
  | reply :: rest, s => runFrames n rest (serviceFrameEnd n (.checkOk 2 0 ⟨false, false⟩ reply) (chooseSlot n s).2)

/-- The reply slots of an OK reply to a READ whose status nibble stands in the frame right after the request's check
nibble: five frames that are ignored, the status, the data nibbles and the check nibble (R20, R154). -/
def promptReply (data : List Byte) : List Slot :=
  let nibbles := 0x0#4 :: data.flatMap fun b => [highNibble b, lowNibble b]
  List.replicate 5 .idle ++ [.first 0x0#4] ++ (nibbles.tail.map .following) ++ [.following (crc4 nibbles)]

end Sys2Proof.Machine

open Sys2Proof Sys2Proof.Machine

/-! ## The step -/

/-- A step takes the command at the front of the queue and runs it on the state with the queue's rest. On an empty queue
the block idles, which is the model's choice (log entry 2). -/
def Obligations.StepRunsTheFrontCommand : Prop :=
  (∀ (c : Instr) (s : State), step { s with pending := c :: s.pending } = exec c s) ∧
  (∀ s : State, s.pending = [] → step s = .next s)

/-- No command stops the part: every one answers a next state, and leaves the waiting commands as they were (R174; log
entries 1 and 5). -/
def Obligations.EveryCommandAnswersANextState : Prop :=
  ∀ (c : Instr) (s : State), ∃ t, exec c s = .next t ∧ t.pending = s.pending

/-- R174, R185: while RESET is low no block takes an event, a write is ignored and a read returns 0, the ID word included
(log entry 20). -/
def Obligations.NothingIsTakenWhileResetIsLow : Prop :=
  ∀ s : State, s.resetLow = true →
    (∀ c : Instr, c ≠ .hardwareReset → c ≠ .resetRelease → exec c s = .next s) ∧ ∀ a : Address, hostRead s a = 0

/-- R180: a refused command changes no state but CMD and the answer words, and posts no event. A command of the command
port is one that a write to CMD is. -/
def Obligations.RefusedCommandChangesOnlyThePort : Prop :=
  ∀ (c : Instr) (s t : State) (value : Word), s.resetLow = false → encodeWrite c = some (0x002, value) →
    exec c s = .next t → t.port.result.extractLsb' 0 4 ≠ 0 →
      t = { s with port := { cmd := value, args := s.port.args, result := t.port.result, value := t.port.value } }

/-! ## The host window -/

/-- R174, R175, R180: a host write has the effect of the command that it spells, whichever word it addresses. That a
REGISTER_WRITE which spells another row acts as that row, with the level of DA last reported, is the model's choice (log
entry 10). -/
def Obligations.HostWriteIsTheCommandItSpells : Prop :=
  ∀ (a : Address) (v : Word) (s : State),
    exec (decodeWrite s.argDa a v) s = exec (.registerWrite a v) s

/-- The address and the value of a well-formed host command spell that command (R175, R180, R182). -/
def Obligations.EncodedHostWriteDecodes : Prop :=
  ∀ (c : Instr) (da : Bool) (a : Address) (v : Word), wellFormed c = true → encodeWrite c = some (a, v) →
    (∀ d, c = .lineEnable d → d = da) → (∀ d, c = .lineRestart d → d = da) → decodeWrite da a v = c

/-- R174, R175, R180, R181, R182: the writes that reach no block. A value with no assigned code is refused with
BAD_COMMAND, the code echoed from bits 7 to 0; a write to an argument word is stored there; and a write to any other
word with no behaviour of its own is ignored. -/
def Obligations.WritesThatReachNoBlock : Prop :=
  ∀ (s : State) (v : Word), s.resetLow = false →
    (assignedCommand v = false →
      exec (.badCommand v) s = .next (s.answered v (0x1 ||| ((v &&& 0xFF) <<< 8)) 0)) ∧
    (∀ i : Fin 6,
      exec (.registerWrite (BitVec.ofNat 10 (3 + i.val)) v) s =
        .next { s with port := { s.port with args := s.port.args.set i v } }) ∧
    (∀ a : Address, hasOwnWrite a = false → (∀ i : Fin 6, a ≠ BitVec.ofNat 10 (3 + i.val)) →
      exec (.registerWrite a v) s = .next s)

/-- R70, R71, R121, R165, R178: the configuration words. A cycle configuration write is stored while STOPPED and ignored
with its flag set while STARTED; a service configuration write is stored when both fields are in range and ignored with
its flag set otherwise; a class mask write stores the four enables. -/
def Obligations.ConfigurationWrites : Prop :=
  ∀ (s : State) (v : Word), s.resetLow = false →
    (s.cycle.run = .stopped →
      exec (.cycleConfigurationWrite v) s = .next { s with
        cycle := { s.cycle with
          sourceCode := v.extractLsb' 0 2, period := v.extractLsb' 16 16, configIgnored := false } }) ∧
    (s.cycle.run = .started →
      exec (.cycleConfigurationWrite v) s = .next { s with cycle := { s.cycle with configIgnored := true } }) ∧
    (1 ≤ (v.extractLsb' 0 3).toNat ∧ 4 ≤ (v.extractLsb' 8 8).toNat →
      exec (.serviceConfigurationWrite v) s = .next { s with
        service := { s.service with
          attemptLimit := v.extractLsb' 0 3, replyWindow := v.extractLsb' 8 8, configIgnored := false } }) ∧
    (¬(1 ≤ (v.extractLsb' 0 3).toNat ∧ 4 ≤ (v.extractLsb' 8 8).toNat) →
      exec (.serviceConfigurationWrite v) s = .next { s with service := { s.service with configIgnored := true } }) ∧
    exec (.classMaskWrite v) s = .next { s with
      events := { s.events with mask := ⟨v.getLsbD 0, v.getLsbD 1, v.getLsbD 2, v.getLsbD 3⟩ } }

/-! ## The encoder link -/

/-- R7, R9, R11, R12: a frame that an encoder sends with the profile's widths, START no later than the deadline, is
CHECK_OK with the latency, the raw value, ERR, WRN and the reply slot that were sent. -/
def Obligations.EncoderFrameIsJudgedAsSent : Prop :=
  ∀ (f : Frame) (latency raw : Nat) (ew : ErrWrn) (reply : Slot), 2 ≤ latency → latency ≤ f.deadline →
    raw < 2 ^ (f.multiturn.toNat + f.singleturn.toNat) →
    judgeFrame f (encoderSamples latency (f.multiturn.toNat + f.singleturn.toNat) raw ew reply) =
      .checkOk latency raw ew reply

/-- R12: NO_ACK exactly when sample 1 is high; NO_START exactly when it is low and no sample from 2 to the deadline is
high; CHECK_FAIL when START is seen and the eight check bits differ from the check field over the W + 8 covered bits. -/
def Obligations.FrameOutcomesFollowTheSamples : Prop :=
  ∀ (f : Frame) (samples : List Bool),
    (judgeFrame f samples = .noAck ↔ sampleAt samples 1 = true) ∧
    (judgeFrame f samples = .noStart ↔
      sampleAt samples 1 = false ∧ ∀ k, 2 ≤ k → k ≤ f.deadline → sampleAt samples k = false) ∧
    (∀ l, judgeFrame f samples = .checkFail l ↔
      sampleAt samples 1 = false ∧ 2 ≤ l ∧ l ≤ f.deadline ∧ sampleAt samples l = true ∧
      (∀ k, 2 ≤ k → k < l → sampleAt samples k = false) ∧
      natOfBits (samplesFrom samples (l + (f.multiturn.toNat + f.singleturn.toNat) + 9) 8) ≠
        (crc8 (samplesFrom samples (l + 1) (f.multiturn.toNat + f.singleturn.toNat + 8))).toNat)

/-- R11, R18, R19, R20: a request is its op nibble, its address or code high nibble first, and count − 1 or the data
byte, with its check nibble last; its length follows; a status nibble stands for a status by its table, none from 6 on; and
a reply's length follows from its status and the op it answers.
The check nibble is the CRC-4 register from 0 over the nibbles before it, each most significant bit first, with generator
0x9, and the check field of a frame is the CRC-8 register from 0xFF with generator 0x07. -/
def Obligations.MessageLengths : Prop :=
  (∀ (r : Request) (count : Nat) (data : Byte) (status : EncStatus),
    let high := r.code.extractLsb' 4 4
    let low := r.code.extractLsb' 0 4
    (r.op = .read count → 1 ≤ count → count ≤ 16 →
      r.message = [0x1, high, low, BitVec.ofNat 4 (count - 1), crc4 [0x1, high, low, BitVec.ofNat 4 (count - 1)]] ∧
      r.message.length = 5) ∧
    (r.op = .write data →
      r.message = [0x2, high, low, data.extractLsb' 4 4, data.extractLsb' 0 4,
        crc4 [0x2, high, low, data.extractLsb' 4 4, data.extractLsb' 0 4]] ∧
      r.message.length = 6) ∧
    (r.op = .command → r.message = [0x3, high, low, crc4 [0x3, high, low]] ∧ r.message.length = 4) ∧
    r.message.getLast? = some (crc4 r.message.dropLast) ∧
    expectedReply status r.op =
      (match status, r.op with
       | .ok, .read k => 2 * k + 2
       | _, _ => 2)) ∧
  (∀ d : Nibble, encStatusOf d = expectedEncStatus d) ∧
  crc4 [] = 0 ∧
  (∀ (nibbles : List Nibble) (d : Nibble),
    crc4 (nibbles ++ [d]) =
      crcIn 0x9 (crcIn 0x9 (crcIn 0x9 (crcIn 0x9 (crc4 nibbles) (d.getLsbD 3)) (d.getLsbD 2)) (d.getLsbD 1))
        (d.getLsbD 0)) ∧
  crc8 [] = 0xFF ∧ (∀ (bits : List Bool) (b : Bool), crc8 (bits ++ [b]) = crcIn 0x07 (crc8 bits) b)

/-! ## Line controllers -/

/-- R27: a profile is valid exactly when it meets the fourteen numbered conditions; otherwise the number found is that of
the check that fails while every check before it passes. -/
def Obligations.ProfileChecksInOrder : Prop :=
  ∀ p : Profile,
    (firstFailingCheck p = none ↔ ∀ k, 1 ≤ k → k ≤ 14 → expectedCheck p k) ∧
    (∀ k, firstFailingCheck p = some k ↔
      1 ≤ k ∧ k ≤ 14 ∧ ¬expectedCheck p k ∧ ∀ j, 1 ≤ j → j < k → expectedCheck p j)

/-- R27, R28, R29: LINE_ENABLE of an OFF line with a valid profile and LINE_RESTART of a LOST line take it to PROBING:
the counts are 0, AGE is 255 if the line is anchored, the first probe frame starts at once when DA is high and the
recovery wait begins when it is low, and LINE_STATE is posted. That the level of DA is an operand of the two commands (log
entry 3), and that the port keeps it (log entry 9), is the model's choice. -/
def Obligations.EnableAndRestartEnterProbing : Prop :=
  ∀ (s : State) (n : LineNo) (da : Bool), s.resetLow = false → s.names n →
    ((s.line n).state = .off → firstFailingCheck (s.line n).profile = none →
      exec (.lineEnable da) s = .next
        (((s.setLine n (expectedProbingLine (s.line n) da)).posted [.lineState n .probing .enabled]).answered
          0x01 0x0100 0)) ∧
    ((s.line n).state = .lost →
      exec (.lineRestart da) s = .next
        (((s.setLine n (expectedProbingLine (s.line n) da)).posted [.lineState n .probing .restarted]).answered
          0x03 0x0300 0))

/-- R27, R28, R30: the refusals of the line commands: BAD_LINE for a number outside 0 to 7, WRONG_STATE, and BAD_PROFILE
with the number of the first failing check. -/
def Obligations.LineCommandsRefuse : Prop :=
  ∀ (s : State) (da : Bool), s.resetLow = false →
    (8 ≤ (s.arg 0).toNat →
      exec (.lineEnable da) s = .next (s.answered 0x01 0x0102 0) ∧
      exec .lineDisable s = .next (s.answered 0x02 0x0202 0) ∧
      exec (.lineRestart da) s = .next (s.answered 0x03 0x0302 0)) ∧
    (∀ n : LineNo, s.names n →
      ((s.line n).state ≠ .off → exec (.lineEnable da) s = .next (s.answered 0x01 0x0105 0)) ∧
      ((s.line n).state = .off → exec .lineDisable s = .next (s.answered 0x02 0x0205 0)) ∧
      ((s.line n).state ≠ .lost → exec (.lineRestart da) s = .next (s.answered 0x03 0x0305 0)) ∧
      (∀ k, (s.line n).state = .off → firstFailingCheck (s.line n).profile = some k →
        exec (.lineEnable da) s = .next (s.answered 0x01 0x0104 (BitVec.ofNat 32 k))))

/-- R30, R32, R51, R65, R153: LINE_DISABLE of a line in FRAME sets disable-pending, answers 1 and changes nothing else. Of
a line that is not in FRAME it takes the line to OFF at once: no sub-state, no wait, no watch, no queue, no ABORT owed and
no preset, with the anchor state, the counts, the profile and the ring kept; the line's contexts are failed with LINE_OFF;
the events are LINE_STATE, the SVC_FINISHED of the ACTIVE and the QUEUED contexts, and PRESET_DROPPED, in this order; no
other line changes. -/
def Obligations.DisableDefersOrDeparts : Prop :=
  ∀ (s : State) (n : LineNo), s.resetLow = false → s.names n → (s.line n).state ≠ .off →
    ((s.line n).sub = .frame →
      exec .lineDisable s =
        .next ((s.setLine n { s.line n with disablePending := true }).answered 0x02 0x0200 1)) ∧
    ((s.line n).sub ≠ .frame → QueueLaw s → ActiveLaw s →
      ∃ t, exec .lineDisable s = .next t ∧
        t.line n = { s.line n with
          state := .off, sub := .none, waited := none, link := { (s.line n).link with watch := .none },
          queue := [], abortOwed := false, pos := { (s.line n).pos with preset := none } } ∧
        (∀ m, m ≠ n → t.line m = s.line m) ∧
        (∀ c, (∀ r p, (s.ctx c).body = .active r p → r.line ≠ n) → (∀ r, (s.ctx c).body = .queued r → r.line ≠ n) →
          t.ctx c = s.ctx c) ∧
        (∀ c r p, (s.ctx c).body = .active r p → r.line = n →
          (t.ctx c).body = .finished r p.attempts
            { kind := .failed, encStatus := none, data := [], reason := some .lineOff, framesUsed := p.framesUsed }) ∧
        (∀ c r, (s.ctx c).body = .queued r → r.line = n →
          (t.ctx c).body = .finished r 0
            { kind := .failed, encStatus := none, data := [], reason := some .lineOff, framesUsed := 0 }) ∧
        t.events.entries = postAll (expectedDisableEvents s n) s.cycle.number s.events.entries ∧
        t.cycle = s.cycle ∧ t.banks = s.banks ∧ t.faults = s.faults ∧ t.port = (s.answered 0x02 0x0200 0).port)

/-- R26, R67, R112: a profile write is stored while the line is OFF, where it clears the flag, the anchor state, the
reference and the ring; in every other state it only sets the flag. -/
def Obligations.ProfileWriteOnlyInOff : Prop :=
  ∀ (s : State) (n : LineNo) (k : Fin 5) (v : Word), s.resetLow = false →
    ((s.line n).state = .off →
      exec (.profileWrite n k v) s = .next (s.setLine n { s.line n with
        profile := (s.line n).profile.write k v
        writeIgnored := false
        pos := { anchored := false, rPrev := 0, extended := 0, offset := 0, continuity := .none, age := 255,
                 preset := (s.line n).pos.preset, reference := ⟨false, false⟩ }
        ring := { entries := [], sequence := 0 } })) ∧
    ((s.line n).state ≠ .off →
      exec (.profileWrite n k v) s = .next (s.setLine n { s.line n with writeIgnored := true }))

/-- R174, R179: a write to a profile word stores its fields, each from the bits that the layout gives it, and keeps every
other field; the jump limit is one number across words 3 and 4. The word reads back what was written to it, in the bits
that its layout assigns, and the other words of the profile are left as they were. -/
def Obligations.ProfileWordReadsBack : Prop :=
  ∀ (p : Profile) (v : Word),
    p.write 0 v = { p with
      singleturn := v.extractLsb' 0 5, multiturn := v.extractLsb' 8 5, reflected := v.getLsbD 16
      invert := v.getLsbD 17, safety := v.getLsbD 24 } ∧
    p.write 1 v = { p with
      rate := v.extractLsb' 0 3, slack := v.extractLsb' 4 3, recoveryLimit := v.extractLsb' 8 8
      probeGood := v.extractLsb' 16 7, velocityWindow := v.extractLsb' 24 4 } ∧
    p.write 2 v = { p with
      degradeThreshold := v.extractLsb' 0 4, lostThreshold := v.extractLsb' 8 6, recoverCount := v.extractLsb' 16 4
      gapLimit := v.extractLsb' 24 8 } ∧
    (∀ k : Fin 5, 3 ≤ k → p.write k v = { p with jumpLimit := (p.write k v).jumpLimit }) ∧
    (p.write 3 v).jumpLimit.toNat = p.jumpLimit.toNat / 2 ^ 32 * 2 ^ 32 + v.toNat ∧
    (p.write 4 v).jumpLimit.toNat = v.toNat % 2 ^ 8 * 2 ^ 32 + p.jumpLimit.toNat % 2 ^ 32 ∧
    ∀ k : Fin 5,
      profileWord (p.write k v) k =
        v &&& (match k with
          | 0 => 0x01031F1F#32
          | 1 => 0x0F7FFF77#32
          | 2 => 0xFF0F3F0F#32
          | 3 => 0xFFFFFFFF#32
          | 4 => 0x000000FF#32) ∧
      ∀ j : Fin 5, j ≠ k → profileWord (p.write k v) j = profileWord p j

/-- R13, R24, R33: at the end of recovery, which the port reports while it observes DA, a line in RUN or DEGRADED becomes
READY, and a PROBING line asks at once for a probe frame with an idle slot and the deadline 31. That an end of recovery
during the 2 µs of disregard, which cannot come, changes nothing (log entry 6), and that the port keeps the high level of
DA that ended recovery (log entry 9), is the model's choice. -/
def Obligations.EndOfRecoveryMakesReady : Prop :=
  ∀ (s : State) (n : LineNo), s.resetLow = false → (s.line n).sub = .recovery →
    ((s.line n).link.watch = .observing → (s.line n).state ≠ .probing →
      exec (.endOfRecovery n) s = .next (s.setLine n { s.line n with
        sub := .ready, waited := none, link := { (s.line n).link with watch := .none, da := true } })) ∧
    ((s.line n).link.watch = .observing → (s.line n).state = .probing →
      exec (.endOfRecovery n) s = .next (s.setLine n { s.line n with
        sub := .frame, waited := none,
        link := { frame := some (expectedProbeFrame (s.line n)), watch := .none, da := true } })) ∧
    ((s.line n).link.watch ≠ .observing → exec (.endOfRecovery n) s = .next s)

/-- R32, R35, R39, R40, R41, R43, R65, R153, R169: when the wait has reached the recovery limit, an expiry begins a new
wait. In PROBING it counts as a probe frame that is not good, and the 255th count takes the line to LOST; in RUN or
DEGRADED NOT_READY is posted with the state after the failure, and the failure is counted. An entry to LOST fails the
line's contexts, clears abort-owed, drops the preset and raises LINE_LOST on a SAFETY line. That an expiry of a wait below
the limit, which cannot come, changes nothing, and that one taken late leaves the µs beyond the limit to the new wait, is
the model's choice (log entry 6). That NOT_READY stands before the
LINE_STATE of an entry to DEGRADED is DEDUCED (log entry 14). -/
def Obligations.RecoveryLimitExpiryCounts : Prop :=
  ∀ (s : State) (n : LineNo) (w : Nat), s.resetLow = false → (s.line n).sub = .recovery → (s.line n).waited = some w →
    (w < (s.line n).profile.recoveryLimit.toNat → exec (.recoveryLimitExpiry n) s = .next s) ∧
    ((s.line n).profile.recoveryLimit.toNat ≤ w →
      let again := { s.line n with waited := some (w - (s.line n).profile.recoveryLimit.toNat) }
      ((s.line n).state = .probing → (s.line n).probeFrames + 1 < 255 →
        exec (.recoveryLimitExpiry n) s = .next (s.setLine n { again with
          goodRun := 0, probeFrames := (s.line n).probeFrames + 1 })) ∧
      ((s.line n).state = .probing → 255 ≤ (s.line n).probeFrames + 1 →
        ∃ t after, exec (.recoveryLimitExpiry n) s = .next t ∧ (t.line n).state = .lost ∧ OnlyLine n s t ∧
          t.cycle = s.cycle ∧ t.banks = s.banks ∧
          t.events.entries =
            postAll (.lineState n .lost .probeTimeout :: after) s.cycle.number s.events.entries ∧
          (QueueLaw s → ActiveLaw s →
            t = departed n .lost .probeTimeout (s.setLine n { again with
              goodRun := 0, probeFrames := (s.line n).probeFrames + 1 }))) ∧
      ((s.line n).state = .run → (s.line n).failures + 1 < (s.line n).profile.degradeThreshold.toNat →
        exec (.recoveryLimitExpiry n) s = .next ((s.setLine n { again with
          failures := (s.line n).failures + 1, goodRun := 0 }).posted [.notReady n .run])) ∧
      ((s.line n).state = .run → (s.line n).failures + 1 = (s.line n).profile.degradeThreshold.toNat →
        exec (.recoveryLimitExpiry n) s = .next ((s.setLine n { again with
          state := .degraded, failures := (s.line n).failures + 1, goodRun := 0 }).posted
            [.notReady n .degraded, .lineState n .degraded .degraded])) ∧
      ((s.line n).state = .degraded → (s.line n).failures + 1 < (s.line n).profile.lostThreshold.toNat →
        exec (.recoveryLimitExpiry n) s = .next ((s.setLine n { again with
          failures := (s.line n).failures + 1, goodRun := 0 }).posted [.notReady n .degraded])) ∧
      ((s.line n).state = .degraded → (s.line n).failures + 1 = (s.line n).profile.lostThreshold.toNat →
        ∃ t after, exec (.recoveryLimitExpiry n) s = .next t ∧ (t.line n).state = .lost ∧
          (t.line n).failures = (s.line n).failures + 1 ∧ OnlyLine n s t ∧ t.cycle = s.cycle ∧ t.banks = s.banks ∧
          t.events.entries = postAll (.notReady n .lost :: .lineState n .lost .failures :: after) s.cycle.number
            s.events.entries ∧
          (QueueLaw s → ActiveLaw s →
            t = departed n .lost .failures ((s.setLine n { again with
              failures := (s.line n).failures + 1, goodRun := 0 }).posted [.notReady n .lost]))))

/-- R33: every probe frame end advances the probe frame count and updates the last outcome, the last latency and, of a
CHECK_OK frame, the last ERR and WRN. It leaves the banks, the cycle unit, the ring, the anchor state, the reference and
every other line as they were; and while the line stays in service also its preset, its queue, its ABORT owed and every
context. -/
def Obligations.ProbeFrameEndIsCounted : Prop :=
  ∀ (s : State) (n : LineNo) (f : Frame) (samples : List Bool), ProbeFrame s n f →
    ∃ t, exec (.probeFrameEnd n samples) s = .next t ∧
      (t.line n).probeFrames = (s.line n).probeFrames + 1 ∧
      (t.line n).lastOutcome = some (judgeFrame f samples).outcome ∧
      (t.line n).lastLatency = (judgeFrame f samples).latency ∧
      (t.line n).lastErrWrn =
        (if (judgeFrame f samples).errWrn.isSome then (judgeFrame f samples).errWrn else (s.line n).lastErrWrn) ∧
      (t.line n).sub = (if (t.line n).state.inService then .recovery else .none) ∧
      (t.line n).link.frame = none ∧ (t.line n).ring = (s.line n).ring ∧
      (t.line n).profile = (s.line n).profile ∧ (t.line n).slot = (s.line n).slot ∧
      (t.line n).pos = { (s.line n).pos with
        preset := if (t.line n).state.inService then (s.line n).pos.preset else none } ∧
      ((t.line n).state.inService = true →
        (t.line n).queue = (s.line n).queue ∧ (t.line n).abortOwed = (s.line n).abortOwed ∧ t.service = s.service) ∧
      t.banks = s.banks ∧ t.cycle = s.cycle ∧ OnlyLine n s t

/-- R31, R32, R34, R35, R65, R153, R169: a good probe frame lengthens the good run when its latency lies within one
period of the frame before, and begins a new run otherwise; the run that reaches probe_good takes the line to RUN with the
measured latency, also at the 255th frame; a frame that is not good ends the run, and the 255th count without RUN takes
the line to LOST with all that its departure does. With disable-pending set the line then enters OFF, behind all that the
frame did. That the frame before is compared by the last latency is DEDUCED (log entry 11). That the level of DA that the
port keeps is low after the frame end, whatever the outcome, is the model's choice (log entry 9). -/
def Obligations.GoodRunReachesRun : Prop :=
  ∀ (s : State) (n : LineNo) (f : Frame) (samples : List Bool), ProbeFrame s n f →
    ((s.line n).disablePending = true → QueueLaw s ∧ ActiveLaw s) → 1 ≤ (s.line n).profile.probeGood.toNat →
    let result := judgeFrame f samples
    let ended := { expectedFrameEnd (s.line n) result with probeFrames := (s.line n).probeFrames + 1 }
    (∀ l raw ew reply goodRun, result = .checkOk l raw ew reply → ew.err = false →
      goodRun =
        (if 1 ≤ (s.line n).goodRun ∧ ∃ l', (s.line n).lastLatency = some l' ∧ l ≤ l' + 1 ∧ l' ≤ l + 1 then
          (s.line n).goodRun + 1 else 1) →
      ((s.line n).profile.probeGood.toNat ≤ goodRun →
        exec (.probeFrameEnd n samples) s = .next (afterDeferred n ((s.setLine n { ended with
          state := .run, lMeas := l, failures := 0, goodRun := 0 }).posted [.lineState n .run .probed]))) ∧
      (goodRun < (s.line n).profile.probeGood.toNat → (s.line n).probeFrames + 1 < 255 →
        exec (.probeFrameEnd n samples) s = .next (afterDeferred n (s.setLine n { ended with goodRun := goodRun }))) ∧
      (goodRun < (s.line n).profile.probeGood.toNat → 255 ≤ (s.line n).probeFrames + 1 →
        ∃ t after, exec (.probeFrameEnd n samples) s = .next t ∧
          (t.line n).state = (if (s.line n).disablePending then .off else .lost) ∧
          t.events.entries = postAll (.lineState n .lost .probeTimeout :: after) s.cycle.number s.events.entries ∧
          (QueueLaw s → ActiveLaw s →
            t = afterDeferred n (departed n .lost .probeTimeout (s.setLine n { ended with goodRun := goodRun }))))) ∧
    ((∀ l raw ew reply, result = .checkOk l raw ew reply → ew.err = true) →
      ((s.line n).probeFrames + 1 < 255 →
        exec (.probeFrameEnd n samples) s = .next (afterDeferred n (s.setLine n { ended with goodRun := 0 }))) ∧
      (255 ≤ (s.line n).probeFrames + 1 →
        ∃ t after, exec (.probeFrameEnd n samples) s = .next t ∧
          (t.line n).state = (if (s.line n).disablePending then .off else .lost) ∧
          t.events.entries = postAll (.lineState n .lost .probeTimeout :: after) s.cycle.number s.events.entries ∧
          (QueueLaw s → ActiveLaw s →
            t = afterDeferred n (departed n .lost .probeTimeout (s.setLine n { ended with goodRun := 0 })))))

/-- R13, R24, R36, R37, R53, R57, R67, R94, R105, R106, R142: a running frame end, with or without a deferred disable.
The frame is closed and disable-pending cleared; recovery begins unless the line leaves service; the last outcome, the
last latency and, of a CHECK_OK frame, the last ERR and WRN are updated; the line's ring gets one entry with the status of
R37; and the line's record goes into the bank that was back, in the state that the health counting gave the line, with the
velocity of R113. A CHECK_OK frame sets the ERR/WRN reference; any other frame, and one with ERR set, leaves the anchor
state. While the line stays in service its contexts, its queue and its ABORT owed are those that the service engine's work
at the frame end leaves. The front bank, every other line and all that OnlyLine names are as they were. That the level of
DA that the port keeps is low after the frame end, whatever the outcome, is the model's choice (log entry 9). -/
def Obligations.RunningFrameEndWritesItsRecord : Prop :=
  ∀ (s : State) (n : LineNo) (f : Frame) (samples : List Bool), RunningFrame s n f →
    let result := judgeFrame f samples
    let status := expectedStatus s n result
    let served := serviceFrameEnd n result s
    ∃ t, exec (.runningFrameEnd n samples) s = .next t ∧
      t.line n = { expectedFrameEnd (s.line n) result with
        state := (t.line n).state, failures := (t.line n).failures, goodRun := (t.line n).goodRun
        disablePending := false
        sub := if (t.line n).state.inService then .recovery else .none
        waited := if (t.line n).state.inService then some 0 else none
        link := { frame := none, da := false
                  watch := if (t.line n).state.inService then .disregarding 2 else .none }
        pos := (t.line n).pos, ring := (t.line n).ring
        queue := (t.line n).queue, abortOwed := (t.line n).abortOwed, slot := .none } ∧
      (t.line n).ring = (s.line n).ring.append
        { cycle := s.cycle.number, status := status,
          extended := if status = .good then some (t.line n).pos.extended else none,
          errWrn := result.errWrn, latency := result.latency } ∧
      (t.banks.bank s.banks.backId).records[n] =
        { state := (healthAfter s n result).1, status := status, errWrn := result.errWrn, latency := result.latency,
          axis := if (t.line n).pos.anchored then some ((t.line n).pos.extended + (t.line n).pos.offset) else none,
          age := (t.line n).pos.age, continuity := (t.line n).pos.continuity,
          velocity := velocityOf (t.line n).profile (t.line n).pos.continuity (t.line n).ring.entries,
          presetArmed := status ≠ .good ∧ (healthAfter s n result).1 ≠ .lost ∧ (s.line n).pos.preset.isSome } ∧
      (result.errWrn = none → (t.line n).pos = { (s.line n).pos with preset := (t.line n).pos.preset }) ∧
      (∀ ew, result.errWrn = some ew →
        (t.line n).pos.reference = ew ∧
        (status ≠ .good →
          (t.line n).pos = { (s.line n).pos with reference := ew, preset := (t.line n).pos.preset })) ∧
      (status ≠ .good →
        (t.line n).pos.preset = if (t.line n).state.inService then (s.line n).pos.preset else none) ∧
      ((t.line n).state.inService = true →
        (∀ c, t.ctx c = served.ctx c) ∧ (t.line n).queue = (served.line n).queue ∧
        (t.line n).abortOwed = (served.line n).abortOwed) ∧
      (∀ m : LineNo, m ≠ n → (t.banks.bank s.banks.backId).records[m] = s.banks.backBank.records[m]) ∧
      t.banks.bank s.banks.front = s.banks.frontBank ∧ OnlyLine n s t ∧
      t.cycle = { s.cycle with state := t.cycle.state, outstanding := t.cycle.outstanding }

/-- R31, R32, R36, R40 to R42, R65, R67, R68, R83, R142, R153, R169: the health counting of a running frame by its sample
status, and what follows from it. With disable-pending set the line ends in OFF, otherwise in the state of its health. A
line that leaves service has no context in progress, no queue, no ABORT owed and no preset: its contexts are those that the
service engine's work left, failed with LINE_LOST at an entry to LOST and with LINE_OFF otherwise. The new causes are
CONTINUITY and LINE_LOST of a SAFETY line. The events stand in the order of the frame-end work: the position unit's, the
service engine's, the health counting's, the completion's, and the deferred disable's. -/
def Obligations.HealthFollowsTheSampleStatus : Prop :=
  ∀ (s : State) (n : LineNo) (f : Frame) (samples : List Bool), RunningFrame s n f →
    let result := judgeFrame f samples
    let health := healthAfter s n result
    let reason : FailureReason := if health.1 = .lost then .lineLost else .lineOff
    ∃ t, exec (.runningFrameEnd n samples) s = .next t ∧
      (t.line n).ring.entries.head?.map SampleEntry.status = some (expectedStatus s n result) ∧
      (t.line n).state = (if (s.line n).disablePending then .off else health.1) ∧
      ((t.line n).failures, (t.line n).goodRun) = health.2 ∧
      t.faults = s.faults ++ continuityCauses s n result ++
        (if health.1 = .lost ∧ (s.line n).profile.safety = true ∧ .lineLost n ∉ s.faults then [.lineLost n] else []) ∧
      ((t.line n).state.inService = false →
        (t.line n).queue = [] ∧ (t.line n).abortOwed = false ∧ (t.line n).pos.preset = none) ∧
      (QueueLaw s → ActiveLaw s →
        ((t.line n).state.inService = false →
          ∀ c, t.ctx c = failedContext n reason ((serviceFrameEnd n result s).ctx c)) ∧
        t.events.entries =
          postAll (positionEvents s n result ++ serviceEvents s n result ++ healthEvents s n result ++
            completionEvents s n ++ deferredEvents s n result) s.cycle.number s.events.entries)

/-! ## Position processing -/

/-- R48, R49: the decoded raw value comes from a plain binary value of W bits. With code REFLECTED that value keeps the
highest bit of the raw value and makes each lower bit the exclusive-or of the binary bit above it and the raw bit, over
all W bits together; with code BINARY it is the raw value. INVERT then maps 0 to 0 and every other value v to 2^W − v. -/
def Obligations.RawValueDecoding : Prop :=
  ∀ (p : Profile) (raw : Nat), raw < 2 ^ p.width →
    ∃ binary, binary < 2 ^ p.width ∧
      (p.reflected = true →
        (∀ i, i + 1 = p.width → binary.testBit i = raw.testBit i) ∧
        (∀ i, i + 1 < p.width → binary.testBit i = (binary.testBit (i + 1) ^^ raw.testBit i))) ∧
      (p.reflected = false → binary = raw) ∧
      (p.invert = true → decodeRaw p raw = (2 ^ p.width - binary) % 2 ^ p.width ∧
        (binary = 0 → decodeRaw p raw = 0) ∧ (binary ≠ 0 → decodeRaw p raw = 2 ^ p.width - binary)) ∧
      (p.invert = false → decodeRaw p raw = binary)

/-- R55: the difference lies from −2^(W−1) to 2^(W−1) − 1 and leads from r_prev to r modulo 2^W; a movement of exactly
half the circle is −2^(W−1). -/
def Obligations.SignedDeltaIsTheShortestMovement : Prop :=
  ∀ (w prev r : Nat), 1 ≤ w →
    (-(2 ^ (w - 1) : Int) ≤ signedDelta w prev r ∧ signedDelta w prev r < 2 ^ (w - 1)) ∧
    ((prev : Int) + signedDelta w prev r - r) % 2 ^ w = 0 ∧
    (r = prev + 2 ^ (w - 1) → signedDelta w prev r = -(2 ^ (w - 1) : Int))

/-- R54, R63: a sample judged while the line is not anchored sets E and r_prev to r, anchors the line with continuity
VALID and AGE 0, and takes an armed preset. -/
def Obligations.FirstAnchorSetsTheCount : Prop :=
  ∀ (s : State) (n : LineNo) (samples : List Bool) (l raw : Nat) (ew : ErrWrn) (reply : Slot),
    JudgedFrame s n samples l raw ew reply → (s.line n).pos.anchored = false →
    ∃ t, exec (.runningFrameEnd n samples) s = .next t ∧
      (t.line n).pos.anchored = true ∧ (t.line n).pos.extended = BitVec.ofNat 48 (decodedOf s n raw) ∧
      (t.line n).pos.rPrev = BitVec.ofNat 40 (decodedOf s n raw) ∧ (t.line n).pos.age = 0 ∧
      presetSettled (s.line n).pos (t.line n).pos .valid

/-- R56, R60, R63, R67, R68, R169: a sample after a gap is trusted without a jump check: E moves by the signed
difference and AGE is 0. VALID continuity becomes UNCERTAIN and CONTINUITY_LOST is posted with the AGE of the
judgement, behind an ENC_STATUS of the frame, before the FAULT_RAISED of a SAFETY line and a PRESET_TAKEN; an UNCERTAIN
one stays. -/
def Obligations.GapSampleEndsContinuity : Prop :=
  ∀ (s : State) (n : LineNo) (samples : List Bool) (l raw : Nat) (ew : ErrWrn) (reply : Slot),
    JudgedFrame s n samples l raw ew reply → (s.line n).pos.anchored = true →
    (s.line n).profile.gapLimit.toNat < (s.line n).pos.age ∨ (s.line n).pos.age = 255 →
    (s.line n).pos.continuity ≠ .none →
    ∃ t after, exec (.runningFrameEnd n samples) s = .next t ∧
      (t.line n).pos.extended = (s.line n).pos.extended + BitVec.ofInt 48 (deltaOf s n raw) ∧
      (t.line n).pos.rPrev = BitVec.ofNat 40 (decodedOf s n raw) ∧ (t.line n).pos.age = 0 ∧
      presetSettled (s.line n).pos (t.line n).pos .uncertain ∧
      ((s.line n).pos.continuity = .valid → (s.line n).profile.safety = true → .continuity n ∈ t.faults) ∧
      t.events.entries = postAll
        ((if (s.line n).pos.reference = ew then [] else [.encStatus n ew]) ++
          (if (s.line n).pos.continuity = .valid then
            [.continuityLost n (s.line n).pos.age] ++
              (if (s.line n).profile.safety = true ∧ .continuity n ∉ s.faults then [.faultRaised (.continuity n)]
               else [])
           else []) ++
          (if (s.line n).pos.preset.isSome then [.presetTaken n] else []) ++ after)
        s.cycle.number s.events.entries

/-- R57: a sample on an anchored line, with no gap, whose movement exceeds the jump limit leaves E, r_prev, the offset,
continuity and AGE as they were, keeps an armed preset while the line stays in service, and its history entry shows JUMP
without E. -/
def Obligations.JumpLeavesTheAnchorState : Prop :=
  ∀ (s : State) (n : LineNo) (samples : List Bool) (l raw : Nat) (ew : ErrWrn) (reply : Slot),
    JudgedFrame s n samples l raw ew reply → (s.line n).pos.anchored = true →
    (s.line n).pos.age ≤ (s.line n).profile.gapLimit.toNat → (s.line n).pos.age ≠ 255 →
    (s.line n).profile.jumpLimit.toNat < (deltaOf s n raw).natAbs →
    ∃ t e, exec (.runningFrameEnd n samples) s = .next t ∧ (t.line n).pos.anchored = true ∧
      (t.line n).pos.extended = (s.line n).pos.extended ∧ (t.line n).pos.rPrev = (s.line n).pos.rPrev ∧
      (t.line n).pos.offset = (s.line n).pos.offset ∧ (t.line n).pos.continuity = (s.line n).pos.continuity ∧
      (t.line n).pos.age = (s.line n).pos.age ∧
      ((t.line n).state.inService = true → (t.line n).pos.preset = (s.line n).pos.preset) ∧
      (t.line n).ring.entries.head? = some e ∧ e.status = .jump ∧ e.extended = none

/-- R58, R63: a sample on an anchored line, with no gap, whose movement does not exceed the jump limit adds exactly the
signed difference to E modulo 2^48, sets r_prev to r and AGE to 0, leaves continuity as it was and takes an armed preset;
its history entry shows GOOD with E. -/
def Obligations.AcceptedSampleMovesTheCount : Prop :=
  ∀ (s : State) (n : LineNo) (samples : List Bool) (l raw : Nat) (ew : ErrWrn) (reply : Slot),
    JudgedFrame s n samples l raw ew reply → (s.line n).pos.anchored = true →
    (s.line n).pos.age ≤ (s.line n).profile.gapLimit.toNat → (s.line n).pos.age ≠ 255 →
    (deltaOf s n raw).natAbs ≤ (s.line n).profile.jumpLimit.toNat →
    ∃ t e, exec (.runningFrameEnd n samples) s = .next t ∧ (t.line n).pos.anchored = true ∧
      (t.line n).pos.extended = (s.line n).pos.extended + BitVec.ofInt 48 (deltaOf s n raw) ∧
      (t.line n).pos.rPrev = BitVec.ofNat 40 (decodedOf s n raw) ∧ (t.line n).pos.age = 0 ∧
      presetSettled (s.line n).pos (t.line n).pos (s.line n).pos.continuity ∧
      (t.line n).ring.entries.head? = some e ∧ e.status = .good ∧ e.extended = some (t.line n).pos.extended

/-- R61, R62, R64: SET_PRESET arms the value of ARG1 and ARG2 on a line in service, answering 1 when it replaces one;
CANCEL_PRESET disarms an armed preset; ACK_CONTINUITY makes UNCERTAIN continuity VALID in every line state and leaves E,
the offset and AGE as they were; and each refuses a line outside 0 to 7 and a line in the wrong state. -/
def Obligations.PresetAndContinuityCommands : Prop :=
  ∀ s : State, s.resetLow = false →
    (8 ≤ (s.arg 0).toNat →
      exec .setPreset s = .next (s.answered 0x18 0x1802 0) ∧
      exec .cancelPreset s = .next (s.answered 0x19 0x1902 0) ∧
      exec .ackContinuity s = .next (s.answered 0x1A 0x1A02 0)) ∧
    (∀ n : LineNo, s.names n →
      ((s.line n).state = .off ∨ (s.line n).state = .lost →
        exec .setPreset s = .next (s.answered 0x18 0x1805 0)) ∧
      ((s.line n).state ≠ .off → (s.line n).state ≠ .lost →
        exec .setPreset s = .next
          ((s.setLine n { s.line n with
            pos := { (s.line n).pos with preset := some ((s.arg 2).extractLsb' 0 16 ++ s.arg 1) } }).answered 0x18 0x1800
              (if (s.line n).pos.preset.isSome then 1 else 0))) ∧
      ((s.line n).pos.preset = none → exec .cancelPreset s = .next (s.answered 0x19 0x1905 0)) ∧
      ((s.line n).pos.preset ≠ none →
        exec .cancelPreset s = .next
          ((s.setLine n { s.line n with pos := { (s.line n).pos with preset := none } }).answered 0x19 0x1900 0)) ∧
      ((s.line n).pos.continuity = .uncertain →
        exec .ackContinuity s = .next
          ((s.setLine n { s.line n with pos := { (s.line n).pos with continuity := .valid } }).answered
            0x1A 0x1A00 0)) ∧
      ((s.line n).pos.continuity ≠ .uncertain → exec .ackContinuity s = .next (s.answered 0x1A 0x1A05 0)))

/-! ## Acquisition cycles -/

/-- R72, R73, R74: CYCLE_START checks the source and then the period, and starts the period timer from 0 with source
TIMER; CYCLE_STOP stops the run control and the timer, answers 1 while a cycle is ACTIVE, and leaves the cycle state. -/
def Obligations.CycleStartAndStop : Prop :=
  ∀ s : State, s.resetLow = false →
    (s.cycle.run = .started → exec .cycleStart s = .next (s.answered 0x08 0x0805 0)) ∧
    (s.cycle.run = .stopped → s.cycle.sourceCode = 3 → exec .cycleStart s = .next (s.answered 0x08 0x0803 1)) ∧
    (s.cycle.run = .stopped → s.cycle.sourceCode ≠ 3 → s.cycle.period.toNat < 20 →
      exec .cycleStart s = .next (s.answered 0x08 0x0803 2)) ∧
    (s.cycle.run = .stopped → s.cycle.sourceCode ≠ 3 → 20 ≤ s.cycle.period.toNat →
      exec .cycleStart s = .next (({ s with cycle := { s.cycle with
        run := .started, timer := if s.cycle.sourceCode = 2 then .running 0 else .stopped } }).answered
          0x08 0x0800 0)) ∧
    (s.cycle.run = .stopped → exec .cycleStop s = .next (s.answered 0x09 0x0905 0)) ∧
    (s.cycle.run = .started →
      exec .cycleStop s = .next (({ s with cycle := { s.cycle with run := .stopped, timer := .stopped } }).answered
        0x09 0x0900 (if s.cycle.state = CycleState.active then 1 else 0)))

/-- R52, R74 to R80, R92, R93, R138 to R141: a SYNC edge with source SYNC, an expiry of the timer that has counted its
period and a TRIGGER command each start a cycle while STARTED and IDLE. The cycle runs on while a line participates. That
an expiry taken at `e` µs, beyond the period, leaves the timer at `e` less the period, so that a late one keeps the
schedule, is the model's choice (log entry 6); at the period itself the next one begins from 0 by R74. -/
def Obligations.TriggersStartACycle : Prop :=
  ∀ s : State, s.resetLow = false → s.cycle.run = .started → s.cycle.state = .idle →
    (s.cycle.sourceCode = 1 →
      ∃ t, exec .syncEdge s = .next t ∧ CycleStarted .sync s t ∧
        (t.cycle.participating ≠ [] → CycleRunning s t) ∧ t.cycle.timer = s.cycle.timer ∧ t.port = s.port) ∧
    (∀ e, s.cycle.timer = .running e → s.cycle.period.toNat ≤ e →
      ∃ t, exec .timerExpiry s = .next t ∧ CycleStarted .timer s t ∧
        (t.cycle.participating ≠ [] → CycleRunning s t) ∧ t.cycle.timer = .running (e - s.cycle.period.toNat) ∧
        t.port = s.port) ∧
    (∃ t, exec .trigger s = .next t ∧ CycleStarted .host s t ∧
      (t.cycle.participating ≠ [] → CycleRunning s t) ∧ t.cycle.timer = s.cycle.timer ∧
      t.port = (s.answered 0x0A 0x0A00 0).port)

/-- R74, R75, R76, R77, R81: while a cycle is ACTIVE a trigger is dropped: the overrun count of the back header advances,
saturating at 255, CYCLE_OVERRUN is posted, and nothing else changes, but that an expiry still begins the next period.
While STOPPED no trigger is taken and TRIGGER is refused. That an expiry before the timer has counted its period, which
cannot come, changes nothing, and that one taken late keeps the schedule, is the model's choice (log entry 6). -/
def Obligations.OverrunsAreCounted : Prop :=
  ∀ s : State, s.resetLow = false →
    let count := if s.banks.backBank.header.overruns < 255 then s.banks.backBank.header.overruns + 1 else 255
    let counted := { s with banks := s.banks.updBack fun b => { b with header := { b.header with overruns := count } } }
    (s.cycle.run = .started → s.cycle.state = .active →
      (s.cycle.sourceCode = 1 → exec .syncEdge s = .next (counted.posted [.cycleOverrun .sync count])) ∧
      (∀ e, s.cycle.timer = .running e → s.cycle.period.toNat ≤ e →
        exec .timerExpiry s =
          .next ({ counted with cycle := { s.cycle with timer := .running (e - s.cycle.period.toNat) } }.posted
            [.cycleOverrun .timer count])) ∧
      exec .trigger s = .next ((counted.posted [.cycleOverrun .host count]).answered 0x0A 0x0A00 1)) ∧
    (s.cycle.run = .stopped ∨ s.cycle.sourceCode ≠ 1 → exec .syncEdge s = .next s) ∧
    (s.cycle.timer = .stopped → exec .timerExpiry s = .next s) ∧
    (∀ e, s.cycle.timer = .running e → e < s.cycle.period.toNat → exec .timerExpiry s = .next s) ∧
    (s.cycle.run = .stopped → exec .trigger s = .next (s.answered 0x0A 0x0A05 0))

/-- R84, R96, R97: a cycle in which no line participates completes at its start, whichever trigger starts it: the cycle
unit is IDLE, the two timestamps are equal, and the bank is published with HOLD clear and held with HOLD set. -/
def Obligations.EmptyCycleCompletesAtOnce : Prop :=
  ∀ s : State, s.resetLow = false → s.cycle.run = .started → s.cycle.state = .idle →
    (∀ n, (s.line n).participates = false) →
    (s.cycle.sourceCode = 1 → ∃ t, exec .syncEdge s = .next t ∧ EmptyCycleCompleted s t) ∧
    (∀ e, s.cycle.timer = .running e → s.cycle.period.toNat ≤ e →
      ∃ t, exec .timerExpiry s = .next t ∧ EmptyCycleCompleted s t) ∧
    (∃ t, exec .trigger s = .next t ∧ EmptyCycleCompleted s t)

/-- R13, R39, R74, R85: a tick advances the timestamp counter by one modulo 2^32 and changes nothing else of the part but
the µs that the running timer, the recovery waits and the recovery watches have counted. That the waits and the watches
count whole ticks from the frame end is the model's choice (log entry 7). -/
def Obligations.TickAdvancesTheTimestamp : Prop :=
  ∀ s : State, s.resetLow = false →
    ∃ t, exec .timestampCounterTick s = .next t ∧ t.cycle.timestamp = s.cycle.timestamp + 1 ∧
      t = { s with cycle := { s.cycle with timestamp := t.cycle.timestamp, timer := t.cycle.timer }, lines := t.lines } ∧
      (∀ e, s.cycle.timer = .running e → t.cycle.timer = .running (e + 1)) ∧
      (s.cycle.timer = .stopped → t.cycle.timer = .stopped) ∧
      ∀ n,
        t.line n = { s.line n with
          waited := (t.line n).waited, link := { (s.line n).link with watch := (t.line n).link.watch } } ∧
        ((s.line n).waited = none → (t.line n).waited = none) ∧
        (∀ w, (s.line n).waited = some w → (t.line n).waited = some (w + 1)) ∧
        ((s.line n).link.watch = .none → (t.line n).link.watch = .none) ∧
        ((s.line n).link.watch = .disregarding 2 → (t.line n).link.watch = .disregarding 1) ∧
        ((s.line n).link.watch = .disregarding 1 → (t.line n).link.watch = .observing) ∧
        ((s.line n).link.watch = .observing → (t.line n).link.watch = .observing)

/-- R82, R83, R91, R96, R97: the running frame end of the last outstanding line completes the cycle: the completion
timestamp stands in the header of the bank that was back; with HOLD clear that bank becomes front, the other STALE and
CYCLE_DONE is posted; with HOLD set it is HELD behind the same front and CYCLE_UNPUBLISHED is posted; and the cycle unit is
IDLE. The event stands behind those of the frame and before those of a deferred disable. With another line outstanding the
cycle goes on. -/
def Obligations.LastRecordCompletesTheCycle : Prop :=
  ∀ (s : State) (n : LineNo) (f : Frame) (samples : List Bool), RunningFrame s n f → s.cycle.state = .active →
    n ∈ s.cycle.outstanding →
    let result := judgeFrame f samples
    let ofFrame := positionEvents s n result ++ serviceEvents s n result ++ healthEvents s n result
    ∃ t, exec (.runningFrameEnd n samples) s = .next t ∧
      t.cycle.outstanding = s.cycle.outstanding.filter (· ≠ n) ∧
      (t.cycle.outstanding = [] →
        t.cycle.state = .idle ∧
        (t.banks.bank s.banks.backId).header =
          { s.banks.backBank.header with completed := s.cycle.timestamp } ∧
        (s.banks.hold = false →
          t.banks.front = s.banks.backId ∧ t.banks.backStatus = .stale ∧
          (QueueLaw s → ActiveLaw s →
            t.events.entries = postAll (ofFrame ++ [.cycleDone s.banks.backId] ++ deferredEvents s n result)
              s.cycle.number s.events.entries)) ∧
        (s.banks.hold = true →
          t.banks.front = s.banks.front ∧ t.banks.backStatus = .held ∧
          (QueueLaw s → ActiveLaw s →
            t.events.entries = postAll (ofFrame ++ [.cycleUnpublished s.banks.backId] ++ deferredEvents s n result)
              s.cycle.number s.events.entries))) ∧
      (t.cycle.outstanding ≠ [] →
        t.cycle.state = .active ∧ t.banks.front = s.banks.front ∧ t.banks.backStatus = s.banks.backStatus ∧
        (t.banks.bank s.banks.backId).header = s.banks.backBank.header)

/-! ## Snapshot banks -/

/-- R98, R99, R100: BANK_HOLD sets HOLD and changes nothing else; BANK_RELEASE clears it and, finding HELD, marks the held
header LATE, swaps the banks and posts CYCLE_LATE_PUBLISH. -/
def Obligations.BankHoldAndRelease : Prop :=
  ∀ s : State, s.resetLow = false →
    exec .bankHold s = .next (({ s with banks := { s.banks with hold := true } }).answered 0x10 0x1000
      (if s.banks.hold then 1 else 0)) ∧
    (s.banks.backStatus ≠ .held →
      exec .bankRelease s = .next (({ s with banks := { s.banks with hold := false } }).answered 0x11 0x1100 0)) ∧
    (s.banks.backStatus = .held →
      ∃ t, exec .bankRelease s = .next t ∧ t.banks.hold = false ∧ t.banks.front = s.banks.backId ∧
        t.banks.backStatus = .stale ∧
        t.banks.frontBank = { s.banks.backBank with
          header := { s.banks.backBank.header with publication := .late } } ∧
        t.banks.backBank = s.banks.frontBank ∧
        t = { ((s.posted [.cycleLatePublish s.banks.backId]).answered 0x11 0x1100 1) with banks := t.banks })

/-- R88: between resets the bank that is front keeps its contents at every step, so the front bank changes only by a
swap. -/
def Obligations.FrontBankKeepsItsContents : Prop :=
  ∀ (c : Instr) (s t : State), wellFormed c = true → isReset c = false → exec c s = .next t →
    t.banks.bank s.banks.front = s.banks.frontBank

/-! ## History and velocity -/

/-- R107, R109: an append makes the entry the newest; a ring of fewer than 16 entries holds one more, a full one loses
its oldest and holds 16; and the sequence count advances by one modulo 2^32. -/
def Obligations.RingAppendKeepsTheNewestSixteen : Prop :=
  ∀ (r : Ring) (e : SampleEntry), r.entries.length ≤ 16 →
    (r.append e).entries[0]? = some e ∧
    (∀ k, k + 1 < 16 → (r.append e).entries[k + 1]? = r.entries[k]?) ∧
    (r.entries.length < 16 → (r.append e).entries.length = r.entries.length + 1) ∧
    (r.entries.length = 16 → (r.append e).entries.length = 16) ∧
    (r.append e).sequence = r.sequence + 1

/-- R113, R114: velocity is present exactly when the newest entry and the entry a window earlier are GOOD, the cycle
numbers between them are consecutive modulo 2^16, and continuity is VALID; it is then the difference of their E. -/
def Obligations.VelocityNeedsItsFourConditions : Prop :=
  ∀ (p : Profile) (continuity : Continuity) (entries : List SampleEntry) (v : Count48),
    velocityOf p continuity entries = some v ↔
      continuity = .valid ∧
      ∃ newest oldest e e', entries[0]? = some newest ∧ entries[p.velocityWindow.toNat]? = some oldest ∧
        newest.status = .good ∧ oldest.status = .good ∧
        (∀ k, 1 ≤ k → k ≤ p.velocityWindow.toNat →
          ∃ x, entries[k]? = some x ∧ x.cycle = newest.cycle - BitVec.ofNat 16 k) ∧
        newest.extended = some e ∧ oldest.extended = some e' ∧ v = e - e'

/-! ## Service contexts -/

/-- R126, R127, R182: SVC_OPEN allocates the lowest-numbered FREE context: its generation advances, it is QUEUED with its
request and copies of the service configuration, it stands at the tail of its line's queue, and CMD_VALUE is its ticket:
the context in bits 1 to 0, the generation in bits 15 to 8, and 0 in all others. -/
def Obligations.SvcOpenAllocatesTheLowestFree : Prop :=
  ∀ (s : State) (n : LineNo) (op : SvcOp) (c : CtxNo), s.resetLow = false → s.names n →
    (s.line n).state.inService = true → RequestFits s op →
    (s.ctx c).body = .free → (∀ d, d < c → (s.ctx d).body ≠ .free) →
    ∃ t, exec .svcOpen s = .next t ∧
      t.ctx c = { generation := (s.ctx c).generation + 1,
                  body := .queued { line := n, op := op, code := (s.arg 2).extractLsb' 0 8,
                                    attemptLimit := s.service.attemptLimit, replyWindow := s.service.replyWindow } } ∧
      (∀ d, d ≠ c → t.ctx d = s.ctx d) ∧
      t.line n = { s.line n with queue := (s.line n).queue ++ [c] } ∧ (∀ m, m ≠ n → t.line m = s.line m) ∧
      t.port.result = 0x2000 ∧ ticketOf t.port.value = ⟨c, (s.ctx c).generation + 1⟩ ∧
      t.port.value = BitVec.ofNat 32 (c.val + 2 ^ 8 * ((s.ctx c).generation + 1).toNat) ∧
      t.events = s.events ∧ t.cycle = s.cycle ∧ t.banks = s.banks ∧ t.faults = s.faults

/-- R120, R126, R130, R133: the refusals of the service commands: SVC_OPEN by its four checks in order, and SVC_CANCEL
and SVC_RELEASE by STALE_TICKET and WRONG_STATE. -/
def Obligations.ServiceCommandsRefuse : Prop :=
  ∀ s : State, s.resetLow = false →
    (8 ≤ (s.arg 0).toNat → exec .svcOpen s = .next (s.answered 0x20 0x2002 0)) ∧
    (∀ n : LineNo, s.names n →
      ((255 < (s.arg 2).toNat ∨ (s.arg 1 ≠ 1 ∧ s.arg 1 ≠ 2 ∧ s.arg 1 ≠ 3) ∨
          (s.arg 1 = 1 ∧ ((s.arg 3).toNat = 0 ∨ 16 < (s.arg 3).toNat)) ∨
          (s.arg 1 = 2 ∧ 255 < (s.arg 3).toNat)) →
        exec .svcOpen s = .next (s.answered 0x20 0x2003 0)) ∧
      (∀ op, RequestFits s op →
        ((s.line n).state = .off ∨ (s.line n).state = .lost →
          exec .svcOpen s = .next (s.answered 0x20 0x2005 0)) ∧
        ((s.line n).state ≠ .off → (s.line n).state ≠ .lost → (∀ c, (s.ctx c).body ≠ .free) →
          exec .svcOpen s = .next (s.answered 0x20 0x2006 0)))) ∧
    (∀ c : CtxNo, (ticketOf (s.arg 0)).context = c →
      ((s.ctx c).body = .free ∨ (s.ctx c).generation ≠ (ticketOf (s.arg 0)).generation →
        exec .svcCancel s = .next (s.answered 0x21 0x2107 0) ∧
        exec .svcRelease s = .next (s.answered 0x22 0x2207 0)) ∧
      ((s.ctx c).generation = (ticketOf (s.arg 0)).generation →
        (∀ r a result, (s.ctx c).body = .finished r a result →
          exec .svcCancel s = .next (s.answered 0x21 0x2105 0)) ∧
        (∀ r, (s.ctx c).body = .queued r → exec .svcRelease s = .next (s.answered 0x22 0x2205 0)) ∧
        (∀ r p, (s.ctx c).body = .active r p → exec .svcRelease s = .next (s.answered 0x22 0x2205 0))))

/-- R130, R131, R133: a current ticket cancels a QUEUED context out of its queue with frames used 0, cancels an ACTIVE
one with frames used as it stood and an ABORT owed by its line, and releases a finished one to FREE with its generation
kept; each cancel posts SVC_FINISHED. -/
def Obligations.CancelAndRelease : Prop :=
  ∀ (s : State) (c : CtxNo), s.resetLow = false → ticketOf (s.arg 0) = ⟨c, (s.ctx c).generation⟩ →
    (∀ r, (s.ctx c).body = .queued r →
      exec .svcCancel s = .next
        ((((s.setLine r.line { s.line r.line with queue := (s.line r.line).queue.filter (· ≠ c) }).setCtx c
          { generation := (s.ctx c).generation,
            body := .finished r 0
              { kind := .cancelled, encStatus := none, data := [], reason := none, framesUsed := 0 } }).posted
          [.svcFinished r.line c (s.ctx c).generation .cancelled none]).answered 0x21 0x2100 0)) ∧
    (∀ r p, (s.ctx c).body = .active r p →
      exec .svcCancel s = .next
        ((((s.setLine r.line { s.line r.line with abortOwed := true }).setCtx c
          { generation := (s.ctx c).generation,
            body := .finished r p.attempts
              { kind := .cancelled, encStatus := none, data := [], reason := none, framesUsed := p.framesUsed } }).posted
          [.svcFinished r.line c (s.ctx c).generation .cancelled none]).answered 0x21 0x2100 1)) ∧
    (∀ r a result, (s.ctx c).body = .finished r a result →
      exec .svcRelease s = .next
        ((s.setCtx c { generation := (s.ctx c).generation, body := .free }).answered 0x22 0x2200 0))

/-- R119: the generation of a context advances by one modulo 256 at each allocation of that context, which SVC_OPEN alone
makes, and at no other command; and it is 0 after either reset. That a hardware reset makes it 0 at the falling edge of
RESET already is DEDUCED (log entry 8); R185 gives the reset state at the rising edge. -/
def Obligations.GenerationAdvancesOnlyAtAllocation : Prop :=
  ∀ (x : Instr) (s t : State) (c : CtxNo), wellFormed x = true → exec x s = .next t →
    (isReset x = false →
      ((s.ctx c).body = .free → (t.ctx c).body ≠ .free →
        x = .svcOpen ∧ (t.ctx c).generation = (s.ctx c).generation + 1) ∧
      (¬((s.ctx c).body = .free ∧ (t.ctx c).body ≠ .free) → (t.ctx c).generation = (s.ctx c).generation)) ∧
    (x = .softReset → s.resetLow = false → (t.ctx c).generation = 0) ∧
    (x = .hardwareReset → (t.ctx c).generation = 0) ∧
    (x = .resetRelease → s.resetLow = true → (t.ctx c).generation = 0)

/-! ## Service transactions on the link -/

/-- R139, R140, R141: the request slot of a frame start by the five conditions in order, with the slot-in-flight record
and the change made at the frame start. -/
def Obligations.RequestSlotChoice : Prop :=
  ∀ (s : State) (n : LineNo),
    ((s.line n).abortOwed = true → chooseSlot n s = (.abort, s.setSlot n .abort)) ∧
    ((s.line n).abortOwed = false →
      (∀ c r p, ActiveOn s n c r p →
        (∀ i, p.phase = .sending i →
          chooseSlot n s = (.following (r.message.getD i 0), s.setSlot n (.nibble c i p.attempts))) ∧
        (p.phase = .restarting →
          chooseSlot n s = (.first (r.message.getD 0 0),
            (s.setBody c (.active r
              { attempts := p.attempts + 1, framesUsed := p.framesUsed, phase := .sending 0 })).setSlot n
                (.nibble c 0 (p.attempts + 1)))) ∧
        ((∃ w, p.phase = .awaiting w) ∨ (∃ st e ns, p.phase = .receiving st e ns) →
          chooseSlot n s = (.idle, s.setSlot n .idle))) ∧
      (s.activeCtx n = none →
        ((s.line n).queue = [] → chooseSlot n s = (.idle, s.setSlot n .idle)) ∧
        (∀ c rest r, (s.line n).queue = c :: rest → (s.ctx c).body = .queued r →
          chooseSlot n s = (.first (r.message.getD 0 0),
            (s.setBody c (.active r { attempts := 1, framesUsed := 0, phase := .sending 0 })).setLine n
              { s.line n with queue := rest, slot := .nibble c 0 1 }))))

/-- R142, R144 to R150: an attempt that fails at a frame end with attempts left goes to RESTARTING, and without one
finishes FAILED with its reason and posts SVC_FINISHED; LINK, NO_REPLY, FRAMING and SLAVE_ABORT make the line owe an
ABORT, and the others leave the flag as the delivery of the frame's own slot left it. -/
def Obligations.FailedAttemptRestartsOrFinishes : Prop :=
  ∀ (s : State) (n : LineNo) (c : CtxNo) (r : Request) (p : Progress) (result : FrameResult) (reason : FailureReason),
    ActiveOn s n c r p → expectedFailure r p.phase result = some reason →
    let t := serviceFrameEnd n result s
    let delivered := (s.line n).slot = .abort ∧ result.outcome = .checkOk
    (t.line n).abortOwed =
      (if expectedOwes reason then true else if delivered then false else (s.line n).abortOwed) ∧
    (t.line n).slot = .none ∧ (∀ d, d ≠ c → t.ctx d = s.ctx d) ∧ (∀ m, m ≠ n → t.line m = s.line m) ∧
    (p.attempts < r.attemptLimit.toNat →
      (t.ctx c).body = .active r { attempts := p.attempts, framesUsed := framesCounted p, phase := .restarting } ∧
      t.events = s.events) ∧
    (r.attemptLimit.toNat ≤ p.attempts →
      (t.ctx c).body = .finished r p.attempts
        { kind := .failed, encStatus := expectedFailureStatus reason, data := [], reason := some reason,
          framesUsed := framesCounted p } ∧
      t.events.entries =
        postEntry (.svcFinished n c (s.ctx c).generation .failed (some reason)) s.cycle.number s.events.entries)

/-- R20, R142, R145 to R149, R151: an attempt that does not fail at a CHECK_OK frame end advances: a delivered nibble in
SENDING, an idle slot counted in AWAITING, the status nibble by its table and the following nibbles of a reply, and the check nibble of
an accepted one, which finishes the context DONE with the bytes of an OK reply to a READ. An ABORT that the frame carried
is delivered, also while the context is RESTARTING; nothing else of the line, no other line and no other context changes,
and nothing is posted unless the context finishes. That a nibble counts when the slot in flight names the context is
DEDUCED (log entry 19). -/
def Obligations.AttemptAdvances : Prop :=
  ∀ (s : State) (n : LineNo) (c : CtxNo) (r : Request) (p : Progress) (l raw : Nat) (ew : ErrWrn) (reply : Slot),
    ActiveOn s n c r p → expectedFailure r p.phase (.checkOk l raw ew reply) = none →
    let t := serviceFrameEnd n (.checkOk l raw ew reply) s
    let counted := { p with framesUsed := framesCounted p }
    t.line n = { s.line n with
      slot := .none, abortOwed := if (s.line n).slot = .abort then false else (s.line n).abortOwed } ∧
    (∀ m, m ≠ n → t.line m = s.line m) ∧ (∀ d, d ≠ c → t.ctx d = s.ctx d) ∧
    ((∀ r' a x, (t.ctx c).body ≠ .finished r' a x) → t.events = s.events) ∧
    (∀ i a, p.phase = .sending i → (s.line n).slot = .nibble c i a →
      (t.ctx c).body = .active r { counted with
        phase := if i + 1 = r.message.length then .awaiting 0 else .sending (i + 1) }) ∧
    (∀ w, p.phase = .awaiting w → reply = .idle →
      (t.ctx c).body = .active r { counted with phase := .awaiting (w + 1) }) ∧
    (∀ w d, p.phase = .awaiting w → reply = .first d →
      ∃ status, expectedEncStatus d = some status ∧
        (t.ctx c).body = .active r { counted with phase := .receiving status (expectedReply status r.op) [d] }) ∧
    (∀ status expected nibbles d, p.phase = .receiving status expected nibbles → reply = .following d →
      nibbles.length + 1 ≠ expected →
      (t.ctx c).body = .active r { counted with phase := .receiving status expected (nibbles ++ [d]) }) ∧
    (∀ status expected nibbles d, p.phase = .receiving status expected nibbles → reply = .following d →
      nibbles.length + 1 = expected →
      (t.ctx c).body = .finished r p.attempts
        { kind := .done, encStatus := some status,
          data := (match status, r.op with
            | .ok, .read _ => pairBytes nibbles.tail
            | _, _ => []),
          reason := none, framesUsed := framesCounted p } ∧
      t.events.entries =
        postEntry (.svcFinished n c (s.ctx c).generation .done none) s.cycle.number s.events.entries) ∧
    (p.phase = .restarting → (t.ctx c).body = .active r counted)

/-- R125, R131, R142, R143, R144, R152: a master ABORT is delivered and the flag cleared exactly when the frame carried it
and ended CHECK_OK. At the end of a frame of a line with no ACTIVE context that is all: the reply slot is discarded and no
context, queue or event changes. With a RESTARTING context the frame, failed or not, is also counted in its frames used,
and it stays RESTARTING. -/
def Obligations.AbortIsDeliveredByCheckOk : Prop :=
  ∀ (s : State) (n : LineNo) (result : FrameResult),
    let judged := { s.line n with
      slot := .none
      abortOwed :=
        if (s.line n).slot = .abort ∧ result.outcome = .checkOk then false else (s.line n).abortOwed }
    (s.activeCtx n = none → serviceFrameEnd n result s = s.setLine n judged) ∧
    (∀ c r p, ActiveOn s n c r p → p.phase = .restarting →
      serviceFrameEnd n result s =
        (s.setLine n judged).setBody c (.active r { p with framesUsed := framesCounted p }))

/-- R154: a READ of `count` bytes that waits at the head of the queue of a line with no ACTIVE context and no ABORT owed,
whose encoder answers at once and whose frames all end CHECK_OK, is DONE after 5 + 2 × count + 2 frames, in its first
attempt, with exactly the bytes that the encoder sent. -/
def Obligations.ReadCompletesInItsFewestFrames : Prop :=
  ∀ (s : State) (n : LineNo) (c : CtxNo) (rest : List CtxNo) (r : Request) (data : List Byte),
    (s.line n).abortOwed = false → s.activeCtx n = none → (s.line n).queue = c :: rest →
    (s.ctx c).body = .queued r → r.line = n → r.op = .read data.length → 1 ≤ data.length → data.length ≤ 16 →
    (promptReply data).length = 5 + 2 * data.length + 2 ∧
    ((runFrames n (promptReply data) s).ctx c).body = .finished r 1
      { kind := .done, encStatus := some .ok, data := data, reason := none, framesUsed := 5 + 2 * data.length + 2 }

/-! ## Events and faults -/

/-- R160, R161: a post is appended while the queue holds 30 entries or fewer; at 31 or 32 it is lost, and the loss
advances a LOST entry at the tail, saturating at 65535, or appends one with count 1. -/
def Obligations.PostIsAppendedOrLost : Prop :=
  ∀ (s : State) (i : EventInfo),
    (s.events.entries.length ≤ 30 →
      (post i s).events.entries = s.events.entries ++ [⟨i, s.cycle.number⟩]) ∧
    (31 ≤ s.events.entries.length → ∀ before tail, s.events.entries = before ++ [tail] →
      (∀ count, tail.info = .lost count →
        (post i s).events.entries =
          before ++ [⟨.lost (if count < 65535 then count + 1 else 65535), tail.cycle⟩]) ∧
      (tail.isLost = false →
        (post i s).events.entries = s.events.entries ++ [⟨.lost 1, s.cycle.number⟩]))

/-- R160, R162, R163, R165, R166: EVENT_POP removes the head and answers the entries left, and is refused with QUEUE_EMPTY
on an empty queue; EVENT_FLUSH removes every entry and answers their number; both leave the mask. IRQ is asserted exactly
while the queue holds an entry of an enabled class, SYSTEM being always enabled, so that a queue of 32 entries asserts it
whatever the mask. -/
def Obligations.QueueCommandsAndIrq : Prop :=
  ∀ s : State,
    (s.resetLow = false →
      (s.events.entries = [] → exec .eventPop s = .next (s.answered 0x28 0x2808 0)) ∧
      (∀ head rest, s.events.entries = head :: rest →
        exec .eventPop s = .next ((s.setEntries rest).answered 0x28 0x2800 (BitVec.ofNat 32 rest.length))) ∧
      exec .eventFlush s =
        .next ((s.setEntries []).answered 0x29 0x2900 (BitVec.ofNat 32 s.events.entries.length))) ∧
    (s.irq = true ↔ ∃ e ∈ s.events.entries,
      match e.info.eventClass with
      | .cycle => s.events.mask.cycle = true
      | .line => s.events.mask.line = true
      | .service => s.events.mask.service = true
      | .fault => s.events.mask.fault = true
      | .system => True) ∧
    (EventLaw s → s.events.entries.length = 32 → s.irq = true)

/-- R169, R171, R172: a raise adds a cause that is not in the set and posts FAULT_RAISED, and leaves the set otherwise;
FAULT_CLEAR keeps exactly the causes whose condition is present and answers their number; FAULT is asserted exactly while
the set is not empty. -/
def Obligations.FaultCausesAreRaisedAndCleared : Prop :=
  ∀ s : State,
    (∀ cause, (cause ∈ s.faults → raiseCause cause s = s) ∧
      (cause ∉ s.faults →
        raiseCause cause s = { s with faults := s.faults ++ [cause] }.posted [.faultRaised cause])) ∧
    (s.resetLow = false →
      ∃ kept, exec .faultClear s =
          .next (({ s with faults := kept }).answered 0x30 0x3000 (BitVec.ofNat 32 kept.length)) ∧
        .reset ∉ kept ∧
        (∀ n, .lineLost n ∈ kept ↔ .lineLost n ∈ s.faults ∧ (s.line n).state = .lost) ∧
        (∀ n, .continuity n ∈ kept ↔ .continuity n ∈ s.faults ∧ (s.line n).pos.continuity = .uncertain)) ∧
    (s.faultOutput = true ↔ ∃ cause, cause ∈ s.faults)

/-! ## Resets -/

/-- R25, R46, R87, R103, R121, R137, R167, R173, R178, R179, R184, R185: the three steps of the resets. SOFT_RESET
leaves every block at its reset state with CMD kept and SOFT_RESET_DONE alone in the queue; the falling edge of RESET
stops host access with the fault cause set at RESET, IRQ deasserted and no frame in flight; the rising edge leaves the
reset state with RESET high. After each the window reads the reset words. That every read while RESET is low returns 0,
the ID word included, is DEDUCED from R174 and R185, since R176 gives the ID word at all times (log entry 20). That the
waiting commands (log entry 1) and the levels of DA (log entry 9) are left as they were is the model's choice, and so
is that a release of RESET while RESET is high, which cannot come, changes nothing (log entry 5). -/
def Obligations.ResetsLeaveTheResetState : Prop :=
  ∀ s : State,
    (s.resetLow = false →
      ∃ t, exec .softReset s = .next t ∧ BlocksAreReset s t ∧
        t.events = { entries := [⟨.softResetDone, 0⟩], mask := ⟨false, false, false, false⟩ } ∧ t.irq = true ∧
        t.port = { cmd := 0x3F, args := Vector.replicate 6 0, result := 0x3F00, value := 0 } ∧
        hostRead t 0x001 = 0x30 ∧ hostRead t 0x002 = 0x3F ∧ hostRead t 0x009 = 0x3F00 ∧ hostRead t 0x024 = 1 ∧
        WindowIsReset t) ∧
    (∃ t, exec .hardwareReset s = .next t ∧ t.resetLow = true ∧ t.irq = false ∧ t.faultOutput = true ∧
      t.faults = [.reset] ∧ (∀ n, (t.line n).link.frame = none) ∧ ∀ a, hostRead t a = 0) ∧
    (s.resetLow = true →
      ∃ t, exec .resetRelease s = .next t ∧ BlocksAreReset s t ∧
        t.events = { entries := [], mask := ⟨false, false, false, false⟩ } ∧ t.irq = false ∧
        t.port = { cmd := 0, args := Vector.replicate 6 0, result := 0, value := 0 } ∧
        hostRead t 0x001 = 0x20 ∧ hostRead t 0x002 = 0 ∧ hostRead t 0x009 = 0 ∧ hostRead t 0x024 = 0 ∧
        WindowIsReset t) ∧
    (s.resetLow = false → exec .resetRelease s = .next s)

/-! ## Invariants -/

/-- The reset state meets every law of the device. -/
def Obligations.ResetMeetsTheInvariant : Prop := Invariant State.reset

/-- R160, R168: every step keeps the bound of the event queue, with a LOST entry at the tail of a queue of 32, and the
fault cause set without duplicates. -/
def Obligations.StepKeepsEventAndFaultLaws : Prop :=
  ∀ s t : State, EventLaw s → FaultLaw s → step s = .next t → EventLaw t ∧ FaultLaw t

/-- R23, R24: every step keeps the law of the line controllers: a line in RUN has a failure count below its degrade
threshold, a line in DEGRADED below its lost threshold, and no line in OFF or LOST has a frame in flight. -/
def Obligations.StepKeepsTheLineLaw : Prop :=
  ∀ s t : State, LineLaw s → step s = .next t → LineLaw t

/-- R50: every step keeps the law of the anchor state: on an anchored line E modulo 2^W is r_prev and continuity is VALID
or UNCERTAIN, and an unanchored line has continuity NONE and offset 0. -/
def Obligations.StepKeepsTheAnchorLaw : Prop :=
  ∀ s t : State, LineLaw s → AnchorLaw s → step s = .next t → AnchorLaw t

/-- R104, R106, R113: every step keeps the rings at sixteen entries at most, each with the items of its status, and
velocity in a record only with status GOOD and continuity VALID. -/
def Obligations.StepKeepsRingAndVelocityLaws : Prop :=
  ∀ s t : State, RingLaw s → VelocityLaw s → step s = .next t → RingLaw t ∧ VelocityLaw t

/-- R79, R82, R91: every step keeps the law of the cycle: the back bank is FILLING exactly while a cycle is ACTIVE, HELD
only with HOLD set, and the outstanding lines are exactly the running lines with a frame in flight. -/
def Obligations.StepKeepsTheCycleLaw : Prop :=
  ∀ s t : State, CycleLaw s → step s = .next t → CycleLaw t

/-- R118, R123, R124: every step keeps the laws of the service engine: a DONE READ with status OK holds exactly count
data bytes and every other finished context none; every QUEUED context stands exactly once in the queue of its own line
and no other context stands in a queue; at most one context per line is ACTIVE, and its line is in RUN or DEGRADED. -/
def Obligations.StepKeepsTheServiceLaws : Prop :=
  ∀ s t : State, step s = .next t →
    (DataLaw s → DataLaw t) ∧ (QueueLaw s → ActiveLaw s → QueueLaw t ∧ ActiveLaw t)
end

