-- ==== Sys2Proof/Laws/State.lean ====
section
/-! SUPPORT. The small lemmas of the state updates: for each update, what every field of the state reads after it. -/

namespace Sys2Proof.Machine

/-! ## One lemma for each field that an update leaves alone -/

@[simp] theorem setLine_resetLow (s : State) (n : LineNo) (l : Line) : (s.setLine n l).resetLow = s.resetLow := rfl
@[simp] theorem setLine_cycle (s : State) (n : LineNo) (l : Line) : (s.setLine n l).cycle = s.cycle := rfl
@[simp] theorem setLine_banks (s : State) (n : LineNo) (l : Line) : (s.setLine n l).banks = s.banks := rfl
@[simp] theorem setLine_service (s : State) (n : LineNo) (l : Line) : (s.setLine n l).service = s.service := rfl
@[simp] theorem setLine_events (s : State) (n : LineNo) (l : Line) : (s.setLine n l).events = s.events := rfl
@[simp] theorem setLine_faults (s : State) (n : LineNo) (l : Line) : (s.setLine n l).faults = s.faults := rfl
@[simp] theorem setLine_port (s : State) (n : LineNo) (l : Line) : (s.setLine n l).port = s.port := rfl
@[simp] theorem setLine_pending (s : State) (n : LineNo) (l : Line) : (s.setLine n l).pending = s.pending := rfl

@[simp] theorem updLine_resetLow (s : State) (n : LineNo) (f : Line → Line) : (s.updLine n f).resetLow = s.resetLow := rfl
@[simp] theorem updLine_cycle (s : State) (n : LineNo) (f : Line → Line) : (s.updLine n f).cycle = s.cycle := rfl
@[simp] theorem updLine_banks (s : State) (n : LineNo) (f : Line → Line) : (s.updLine n f).banks = s.banks := rfl
@[simp] theorem updLine_service (s : State) (n : LineNo) (f : Line → Line) : (s.updLine n f).service = s.service := rfl
@[simp] theorem updLine_events (s : State) (n : LineNo) (f : Line → Line) : (s.updLine n f).events = s.events := rfl
@[simp] theorem updLine_faults (s : State) (n : LineNo) (f : Line → Line) : (s.updLine n f).faults = s.faults := rfl
@[simp] theorem updLine_port (s : State) (n : LineNo) (f : Line → Line) : (s.updLine n f).port = s.port := rfl
@[simp] theorem updLine_pending (s : State) (n : LineNo) (f : Line → Line) : (s.updLine n f).pending = s.pending := rfl

@[simp] theorem updLines_resetLow (s : State) (f : Line → Line) : (s.updLines f).resetLow = s.resetLow := rfl
@[simp] theorem updLines_cycle (s : State) (f : Line → Line) : (s.updLines f).cycle = s.cycle := rfl
@[simp] theorem updLines_banks (s : State) (f : Line → Line) : (s.updLines f).banks = s.banks := rfl
@[simp] theorem updLines_service (s : State) (f : Line → Line) : (s.updLines f).service = s.service := rfl
@[simp] theorem updLines_events (s : State) (f : Line → Line) : (s.updLines f).events = s.events := rfl
@[simp] theorem updLines_faults (s : State) (f : Line → Line) : (s.updLines f).faults = s.faults := rfl
@[simp] theorem updLines_port (s : State) (f : Line → Line) : (s.updLines f).port = s.port := rfl
@[simp] theorem updLines_pending (s : State) (f : Line → Line) : (s.updLines f).pending = s.pending := rfl

@[simp] theorem updPos_resetLow (s : State) (n : LineNo) (f : PositionUnit → PositionUnit) : (s.updPos n f).resetLow = s.resetLow := rfl
@[simp] theorem updPos_cycle (s : State) (n : LineNo) (f : PositionUnit → PositionUnit) : (s.updPos n f).cycle = s.cycle := rfl
@[simp] theorem updPos_banks (s : State) (n : LineNo) (f : PositionUnit → PositionUnit) : (s.updPos n f).banks = s.banks := rfl
@[simp] theorem updPos_service (s : State) (n : LineNo) (f : PositionUnit → PositionUnit) : (s.updPos n f).service = s.service := rfl
@[simp] theorem updPos_events (s : State) (n : LineNo) (f : PositionUnit → PositionUnit) : (s.updPos n f).events = s.events := rfl
@[simp] theorem updPos_faults (s : State) (n : LineNo) (f : PositionUnit → PositionUnit) : (s.updPos n f).faults = s.faults := rfl
@[simp] theorem updPos_port (s : State) (n : LineNo) (f : PositionUnit → PositionUnit) : (s.updPos n f).port = s.port := rfl
@[simp] theorem updPos_pending (s : State) (n : LineNo) (f : PositionUnit → PositionUnit) : (s.updPos n f).pending = s.pending := rfl

@[simp] theorem setSlot_resetLow (s : State) (n : LineNo) (x : SlotInFlight) : (s.setSlot n x).resetLow = s.resetLow := rfl
@[simp] theorem setSlot_cycle (s : State) (n : LineNo) (x : SlotInFlight) : (s.setSlot n x).cycle = s.cycle := rfl
@[simp] theorem setSlot_banks (s : State) (n : LineNo) (x : SlotInFlight) : (s.setSlot n x).banks = s.banks := rfl
@[simp] theorem setSlot_service (s : State) (n : LineNo) (x : SlotInFlight) : (s.setSlot n x).service = s.service := rfl
@[simp] theorem setSlot_events (s : State) (n : LineNo) (x : SlotInFlight) : (s.setSlot n x).events = s.events := rfl
@[simp] theorem setSlot_faults (s : State) (n : LineNo) (x : SlotInFlight) : (s.setSlot n x).faults = s.faults := rfl
@[simp] theorem setSlot_port (s : State) (n : LineNo) (x : SlotInFlight) : (s.setSlot n x).port = s.port := rfl
@[simp] theorem setSlot_pending (s : State) (n : LineNo) (x : SlotInFlight) : (s.setSlot n x).pending = s.pending := rfl

@[simp] theorem setAbort_resetLow (s : State) (n : LineNo) (b : Bool) : (s.setAbort n b).resetLow = s.resetLow := rfl
@[simp] theorem setAbort_cycle (s : State) (n : LineNo) (b : Bool) : (s.setAbort n b).cycle = s.cycle := rfl
@[simp] theorem setAbort_banks (s : State) (n : LineNo) (b : Bool) : (s.setAbort n b).banks = s.banks := rfl
@[simp] theorem setAbort_service (s : State) (n : LineNo) (b : Bool) : (s.setAbort n b).service = s.service := rfl
@[simp] theorem setAbort_events (s : State) (n : LineNo) (b : Bool) : (s.setAbort n b).events = s.events := rfl
@[simp] theorem setAbort_faults (s : State) (n : LineNo) (b : Bool) : (s.setAbort n b).faults = s.faults := rfl
@[simp] theorem setAbort_port (s : State) (n : LineNo) (b : Bool) : (s.setAbort n b).port = s.port := rfl
@[simp] theorem setAbort_pending (s : State) (n : LineNo) (b : Bool) : (s.setAbort n b).pending = s.pending := rfl

@[simp] theorem setCtx_resetLow (s : State) (c : CtxNo) (x : Context) : (s.setCtx c x).resetLow = s.resetLow := rfl
@[simp] theorem setCtx_cycle (s : State) (c : CtxNo) (x : Context) : (s.setCtx c x).cycle = s.cycle := rfl
@[simp] theorem setCtx_banks (s : State) (c : CtxNo) (x : Context) : (s.setCtx c x).banks = s.banks := rfl
@[simp] theorem setCtx_events (s : State) (c : CtxNo) (x : Context) : (s.setCtx c x).events = s.events := rfl
@[simp] theorem setCtx_faults (s : State) (c : CtxNo) (x : Context) : (s.setCtx c x).faults = s.faults := rfl
@[simp] theorem setCtx_port (s : State) (c : CtxNo) (x : Context) : (s.setCtx c x).port = s.port := rfl
@[simp] theorem setCtx_pending (s : State) (c : CtxNo) (x : Context) : (s.setCtx c x).pending = s.pending := rfl
@[simp] theorem setCtx_lines (s : State) (c : CtxNo) (x : Context) : (s.setCtx c x).lines = s.lines := rfl

@[simp] theorem setBody_resetLow (s : State) (c : CtxNo) (b : ContextBody) : (s.setBody c b).resetLow = s.resetLow := rfl
@[simp] theorem setBody_cycle (s : State) (c : CtxNo) (b : ContextBody) : (s.setBody c b).cycle = s.cycle := rfl
@[simp] theorem setBody_banks (s : State) (c : CtxNo) (b : ContextBody) : (s.setBody c b).banks = s.banks := rfl
@[simp] theorem setBody_events (s : State) (c : CtxNo) (b : ContextBody) : (s.setBody c b).events = s.events := rfl
@[simp] theorem setBody_faults (s : State) (c : CtxNo) (b : ContextBody) : (s.setBody c b).faults = s.faults := rfl
@[simp] theorem setBody_port (s : State) (c : CtxNo) (b : ContextBody) : (s.setBody c b).port = s.port := rfl
@[simp] theorem setBody_pending (s : State) (c : CtxNo) (b : ContextBody) : (s.setBody c b).pending = s.pending := rfl
@[simp] theorem setBody_lines (s : State) (c : CtxNo) (b : ContextBody) : (s.setBody c b).lines = s.lines := rfl

@[simp] theorem post_resetLow (s : State) (i : EventInfo) : (post i s).resetLow = s.resetLow := rfl
@[simp] theorem post_cycle (s : State) (i : EventInfo) : (post i s).cycle = s.cycle := rfl
@[simp] theorem post_banks (s : State) (i : EventInfo) : (post i s).banks = s.banks := rfl
@[simp] theorem post_service (s : State) (i : EventInfo) : (post i s).service = s.service := rfl
@[simp] theorem post_faults (s : State) (i : EventInfo) : (post i s).faults = s.faults := rfl
@[simp] theorem post_port (s : State) (i : EventInfo) : (post i s).port = s.port := rfl
@[simp] theorem post_pending (s : State) (i : EventInfo) : (post i s).pending = s.pending := rfl
@[simp] theorem post_lines (s : State) (i : EventInfo) : (post i s).lines = s.lines := rfl

@[simp] theorem setEntries_resetLow (s : State) (q : List Event) : (s.setEntries q).resetLow = s.resetLow := rfl
@[simp] theorem setEntries_cycle (s : State) (q : List Event) : (s.setEntries q).cycle = s.cycle := rfl
@[simp] theorem setEntries_banks (s : State) (q : List Event) : (s.setEntries q).banks = s.banks := rfl
@[simp] theorem setEntries_service (s : State) (q : List Event) : (s.setEntries q).service = s.service := rfl
@[simp] theorem setEntries_faults (s : State) (q : List Event) : (s.setEntries q).faults = s.faults := rfl
@[simp] theorem setEntries_port (s : State) (q : List Event) : (s.setEntries q).port = s.port := rfl
@[simp] theorem setEntries_pending (s : State) (q : List Event) : (s.setEntries q).pending = s.pending := rfl
@[simp] theorem setEntries_lines (s : State) (q : List Event) : (s.setEntries q).lines = s.lines := rfl

@[simp] theorem setArg_resetLow (s : State) (i : Fin 6) (w : Word) : (s.setArg i w).resetLow = s.resetLow := rfl
@[simp] theorem setArg_cycle (s : State) (i : Fin 6) (w : Word) : (s.setArg i w).cycle = s.cycle := rfl
@[simp] theorem setArg_banks (s : State) (i : Fin 6) (w : Word) : (s.setArg i w).banks = s.banks := rfl
@[simp] theorem setArg_service (s : State) (i : Fin 6) (w : Word) : (s.setArg i w).service = s.service := rfl
@[simp] theorem setArg_events (s : State) (i : Fin 6) (w : Word) : (s.setArg i w).events = s.events := rfl
@[simp] theorem setArg_faults (s : State) (i : Fin 6) (w : Word) : (s.setArg i w).faults = s.faults := rfl
@[simp] theorem setArg_pending (s : State) (i : Fin 6) (w : Word) : (s.setArg i w).pending = s.pending := rfl
@[simp] theorem setArg_lines (s : State) (i : Fin 6) (w : Word) : (s.setArg i w).lines = s.lines := rfl

@[simp] theorem answer_resetLow (s : State) (code : Word) (r : ResultCode) (v : Word) : (s.answer code r v).resetLow = s.resetLow := rfl
@[simp] theorem answer_cycle (s : State) (code : Word) (r : ResultCode) (v : Word) : (s.answer code r v).cycle = s.cycle := rfl
@[simp] theorem answer_banks (s : State) (code : Word) (r : ResultCode) (v : Word) : (s.answer code r v).banks = s.banks := rfl
@[simp] theorem answer_service (s : State) (code : Word) (r : ResultCode) (v : Word) : (s.answer code r v).service = s.service := rfl
@[simp] theorem answer_events (s : State) (code : Word) (r : ResultCode) (v : Word) : (s.answer code r v).events = s.events := rfl
@[simp] theorem answer_faults (s : State) (code : Word) (r : ResultCode) (v : Word) : (s.answer code r v).faults = s.faults := rfl
@[simp] theorem answer_pending (s : State) (code : Word) (r : ResultCode) (v : Word) : (s.answer code r v).pending = s.pending := rfl
@[simp] theorem answer_lines (s : State) (code : Word) (r : ResultCode) (v : Word) : (s.answer code r v).lines = s.lines := rfl

@[simp] theorem setLine_ctx (s : State) (n : LineNo) (l : Line) (d : CtxNo) : (s.setLine n l).ctx d = s.ctx d := rfl
@[simp] theorem setLine_arg (s : State) (n : LineNo) (l : Line) (j : Fin 6) : (s.setLine n l).arg j = s.arg j := rfl
@[simp] theorem updLine_ctx (s : State) (n : LineNo) (f : Line → Line) (d : CtxNo) : (s.updLine n f).ctx d = s.ctx d := rfl
@[simp] theorem updLine_arg (s : State) (n : LineNo) (f : Line → Line) (j : Fin 6) : (s.updLine n f).arg j = s.arg j := rfl
@[simp] theorem updLines_ctx (s : State) (f : Line → Line) (d : CtxNo) : (s.updLines f).ctx d = s.ctx d := rfl
@[simp] theorem updLines_arg (s : State) (f : Line → Line) (j : Fin 6) : (s.updLines f).arg j = s.arg j := rfl
@[simp] theorem updPos_ctx (s : State) (n : LineNo) (f : PositionUnit → PositionUnit) (d : CtxNo) : (s.updPos n f).ctx d = s.ctx d := rfl
@[simp] theorem updPos_arg (s : State) (n : LineNo) (f : PositionUnit → PositionUnit) (j : Fin 6) : (s.updPos n f).arg j = s.arg j := rfl
@[simp] theorem setSlot_ctx (s : State) (n : LineNo) (x : SlotInFlight) (d : CtxNo) : (s.setSlot n x).ctx d = s.ctx d := rfl
@[simp] theorem setSlot_arg (s : State) (n : LineNo) (x : SlotInFlight) (j : Fin 6) : (s.setSlot n x).arg j = s.arg j := rfl
@[simp] theorem setAbort_ctx (s : State) (n : LineNo) (b : Bool) (d : CtxNo) : (s.setAbort n b).ctx d = s.ctx d := rfl
@[simp] theorem setAbort_arg (s : State) (n : LineNo) (b : Bool) (j : Fin 6) : (s.setAbort n b).arg j = s.arg j := rfl
@[simp] theorem setCtx_line (s : State) (c : CtxNo) (x : Context) (m : LineNo) : (s.setCtx c x).line m = s.line m := rfl
@[simp] theorem setCtx_arg (s : State) (c : CtxNo) (x : Context) (j : Fin 6) : (s.setCtx c x).arg j = s.arg j := rfl
@[simp] theorem setBody_line (s : State) (c : CtxNo) (b : ContextBody) (m : LineNo) : (s.setBody c b).line m = s.line m := rfl
@[simp] theorem setBody_arg (s : State) (c : CtxNo) (b : ContextBody) (j : Fin 6) : (s.setBody c b).arg j = s.arg j := rfl
@[simp] theorem post_line (s : State) (i : EventInfo) (m : LineNo) : (post i s).line m = s.line m := rfl
@[simp] theorem post_ctx (s : State) (i : EventInfo) (d : CtxNo) : (post i s).ctx d = s.ctx d := rfl
@[simp] theorem post_arg (s : State) (i : EventInfo) (j : Fin 6) : (post i s).arg j = s.arg j := rfl
@[simp] theorem setEntries_line (s : State) (q : List Event) (m : LineNo) : (s.setEntries q).line m = s.line m := rfl
@[simp] theorem setEntries_ctx (s : State) (q : List Event) (d : CtxNo) : (s.setEntries q).ctx d = s.ctx d := rfl
@[simp] theorem setEntries_arg (s : State) (q : List Event) (j : Fin 6) : (s.setEntries q).arg j = s.arg j := rfl
@[simp] theorem setArg_line (s : State) (i : Fin 6) (w : Word) (m : LineNo) : (s.setArg i w).line m = s.line m := rfl
@[simp] theorem setArg_ctx (s : State) (i : Fin 6) (w : Word) (d : CtxNo) : (s.setArg i w).ctx d = s.ctx d := rfl
@[simp] theorem answer_line (s : State) (code : Word) (r : ResultCode) (v : Word) (m : LineNo) : (s.answer code r v).line m = s.line m := rfl
@[simp] theorem answer_ctx (s : State) (code : Word) (r : ResultCode) (v : Word) (d : CtxNo) : (s.answer code r v).ctx d = s.ctx d := rfl

/-! ## Reading a line or a context after an update -/

/-- One value for each line, read back. -/
@[simp] theorem perLine_getElem {α : Type} (f : LineNo → α) (n : LineNo) : (perLine f)[n.val] = f n := by
  fin_cases n <;> rfl

@[simp] theorem setLine_line_same (s : State) (n : LineNo) (l : Line) : (s.setLine n l).line n = l := by
  simp [State.setLine, State.line]

/-- A line that is not the one replaced reads as before. -/
theorem setLine_line_ne (s : State) {n m : LineNo} (l : Line) (h : m ≠ n) : (s.setLine n l).line m = s.line m := by
  have : n.val ≠ m.val := fun e => h (Fin.ext e.symm)
  simp [State.setLine, State.line, Vector.getElem_set_ne _ _ this]

theorem setLine_line (s : State) (n m : LineNo) (l : Line) :
    (s.setLine n l).line m = if m = n then l else s.line m := by
  split
  · next h => subst h; simp
  · next h => exact setLine_line_ne s l h

@[simp] theorem updLine_line_same (s : State) (n : LineNo) (f : Line → Line) : (s.updLine n f).line n = f (s.line n) := by
  simp [State.updLine]

theorem updLine_line_ne (s : State) {n m : LineNo} (f : Line → Line) (h : m ≠ n) :
    (s.updLine n f).line m = s.line m := setLine_line_ne s _ h

theorem updLine_line (s : State) (n m : LineNo) (f : Line → Line) :
    (s.updLine n f).line m = if m = n then f (s.line m) else s.line m := by
  split
  · next h => subst h; simp
  · next h => exact updLine_line_ne s f h

@[simp] theorem updLines_line (s : State) (f : Line → Line) (n : LineNo) : (s.updLines f).line n = f (s.line n) := by
  show (perLine fun n => f (s.line n))[n] = _
  simp

@[simp] theorem setCtx_ctx_same (s : State) (c : CtxNo) (x : Context) : (s.setCtx c x).ctx c = x := by
  simp [State.setCtx, State.ctx]

theorem setCtx_ctx_ne (s : State) {c d : CtxNo} (x : Context) (h : d ≠ c) : (s.setCtx c x).ctx d = s.ctx d := by
  have : c.val ≠ d.val := fun e => h (Fin.ext e.symm)
  simp [State.setCtx, State.ctx, Vector.getElem_set_ne _ _ this]

theorem setCtx_ctx (s : State) (c d : CtxNo) (x : Context) :
    (s.setCtx c x).ctx d = if d = c then x else s.ctx d := by
  split
  · next h => subst h; simp
  · next h => exact setCtx_ctx_ne s x h

@[simp] theorem setBody_ctx_same (s : State) (c : CtxNo) (b : ContextBody) :
    (s.setBody c b).ctx c = { generation := (s.ctx c).generation, body := b } := by
  simp [State.setBody]

theorem setBody_ctx_ne (s : State) {c d : CtxNo} (b : ContextBody) (h : d ≠ c) : (s.setBody c b).ctx d = s.ctx d :=
  setCtx_ctx_ne s _ h

theorem setBody_ctx (s : State) (c d : CtxNo) (b : ContextBody) :
    (s.setBody c b).ctx d = if d = c then { generation := (s.ctx c).generation, body := b } else s.ctx d :=
  setCtx_ctx s c d _

/-- A change of body keeps every generation (R119). -/
@[simp] theorem setBody_generation (s : State) (c d : CtxNo) (b : ContextBody) :
    ((s.setBody c b).ctx d).generation = (s.ctx d).generation := by
  rw [setBody_ctx]; split
  · next h => subst h; rfl
  · rfl

/-! ## What the update itself writes -/

@[simp] theorem post_entries (s : State) (i : EventInfo) :
    (post i s).events.entries = postEntry i s.cycle.number s.events.entries := rfl

@[simp] theorem post_mask (s : State) (i : EventInfo) : (post i s).events.mask = s.events.mask := rfl

@[simp] theorem setEntries_entries (s : State) (q : List Event) : (s.setEntries q).events.entries = q := rfl

@[simp] theorem setEntries_mask (s : State) (q : List Event) : (s.setEntries q).events.mask = s.events.mask := rfl

@[simp] theorem setBody_attemptLimit (s : State) (c : CtxNo) (b : ContextBody) :
    (s.setBody c b).service.attemptLimit = s.service.attemptLimit := rfl

@[simp] theorem setBody_replyWindow (s : State) (c : CtxNo) (b : ContextBody) :
    (s.setBody c b).service.replyWindow = s.service.replyWindow := rfl

@[simp] theorem setBody_configIgnored (s : State) (c : CtxNo) (b : ContextBody) :
    (s.setBody c b).service.configIgnored = s.service.configIgnored := rfl

@[simp] theorem answer_cmd (s : State) (code : Word) (r : ResultCode) (v : Word) :
    (s.answer code r v).port.cmd = s.port.cmd := rfl

@[simp] theorem answer_args (s : State) (code : Word) (r : ResultCode) (v : Word) :
    (s.answer code r v).port.args = s.port.args := rfl

@[simp] theorem answer_result (s : State) (code : Word) (r : ResultCode) (v : Word) :
    (s.answer code r v).port.result = resultWord code r := rfl

@[simp] theorem answer_value (s : State) (code : Word) (r : ResultCode) (v : Word) :
    (s.answer code r v).port.value = v := rfl

end Sys2Proof.Machine
end

