-- ==== Sys2Proof/Laws/Exec.lean ====
section
/-! SUPPORT. What each arm of the dispatch runs while RESET is high: one lemma for each command, so that no later proof
unfolds the dispatch. -/

namespace Sys2Proof.Machine

/-- A step of a running part answers the state that its effect gives. -/
theorem whileRunning_of_high {s : State} (h : s.resetLow = false) (f : State → State) :
    whileRunning f s = .next (f s) := by
  simp [whileRunning, h]

/-- A step of a part in reset changes nothing. -/
theorem whileRunning_of_low {s : State} (h : s.resetLow = true) (f : State → State) : whileRunning f s = .next s := by
  simp [whileRunning, h]

/-- A step answers a next state, whatever its effect. -/
theorem whileRunning_next (f : State → State) (s : State) :
    whileRunning f s = .next (if s.resetLow then s else f s) := rfl

/-- Two next states that are one outcome are one state. -/
theorem next_inj {s t : State} (h : (Host.Outcome.next s : Host.Outcome State Fault Refusal) = .next t) : s = t := by
  injection h

end Sys2Proof.Machine
end

