-- ==== Sys2Proof/Laws/Commands.lean ====
section
/-! SUPPORT. The command port once: what a command answers when its owner accepts or refuses, and the line that ARG0
names. -/

namespace Sys2Proof.Machine

/-- The state that the owner of a command sees: CMD holds the value written, and all else is as it was (R180). -/
abbrev State.taken (s : State) (code : Word) : State := { s with port := { s.port with cmd := code } }

@[simp] theorem taken_line (s : State) (code : Word) (n : LineNo) : (s.taken code).line n = s.line n := rfl
@[simp] theorem taken_ctx (s : State) (code : Word) (c : CtxNo) : (s.taken code).ctx c = s.ctx c := rfl
@[simp] theorem taken_arg (s : State) (code : Word) (i : Fin 6) : (s.taken code).arg i = s.arg i := rfl
@[simp] theorem taken_argLine (s : State) (code : Word) : (s.taken code).argLine = s.argLine := rfl
@[simp] theorem taken_argRequest (s : State) (code : Word) : (s.taken code).argRequest = s.argRequest := rfl
@[simp] theorem taken_argPreset (s : State) (code : Word) : (s.taken code).argPreset = s.argPreset := rfl
@[simp] theorem taken_freeCtx (s : State) (code : Word) : (s.taken code).freeCtx = s.freeCtx := rfl
@[simp] theorem taken_activeCtx (s : State) (code : Word) (n : LineNo) : (s.taken code).activeCtx n = s.activeCtx n := rfl
@[simp] theorem taken_isCurrent (s : State) (code : Word) (t : Ticket) : (s.taken code).isCurrent t = s.isCurrent t := rfl

/-- A command that its owner refuses writes CMD and the answer words, and nothing else (R180). -/
theorem takeCommand_refuse {code : Word} {owner : State → Answer} {s : State} {r : ResultCode} {v : Nat}
    (h : owner (s.taken code) = refuse r (s.taken code) v) :
    takeCommand code owner s = s.answered code (resultWord code r) (BitVec.ofNat 32 v) := by
  simp only [takeCommand, h]; rfl

/-- A command that its owner accepts answers with result 0 on the state that the owner leaves (R180). -/
theorem takeCommand_accept {code : Word} {owner : State → Answer} {s t : State} {v : Nat}
    (h : owner (s.taken code) = accept v t) :
    takeCommand code owner s = t.answer code .accepted (BitVec.ofNat 32 v) := by
  simp only [takeCommand, h]; rfl

/-- An event that the part times itself, and that comes before its time, changes nothing (R13, R39, R74). -/
theorem exec_of_untimely {c : Instr} {s : State} (h : timely c s = false) : exec c s = .next s := by
  cases c <;> simp only [timely, Bool.true_eq_false] at h <;>
    simp [exec, execTimerExpiry, timerExpiry, execEndOfRecovery, execRecoveryLimitExpiry, whileRunning, h]

/-- A timer that has counted its period takes its trigger, and the next period keeps the µs beyond this one (R74). -/
theorem exec_timerExpiry_of_counted {s : State} {e : Nat} (high : s.resetLow = false) (h : s.cycle.timer = .running e)
    (due : s.cycle.period.toNat ≤ e) :
    exec .timerExpiry s =
      .next (takeTrigger .timer { s with cycle := { s.cycle with timer := .running (e - s.cycle.period.toNat) } }) := by
  simp [exec, execTimerExpiry, timerExpiry, CycleUnit.expires, PeriodTimer.restart, whileRunning, high, h, due]

/-- A recovery wait that has reached the limit takes its expiry (R39). -/
theorem exec_recoveryLimitExpiry_of_reached {s : State} {n : LineNo} {w : Nat} (high : s.resetLow = false)
    (sub : (s.line n).sub = .recovery) (h : (s.line n).waited = some w)
    (due : (s.line n).profile.recoveryLimit.toNat ≤ w) :
    exec (.recoveryLimitExpiry n) s = .next (recoveryExpiry n s) := by
  simp [exec, execRecoveryLimitExpiry, Line.limitReached, whileRunning, high, sub, h, due]

/-- A port that observes DA in RECOVERY ends it (R13). -/
theorem exec_endOfRecovery_of_observing {s : State} {n : LineNo} (high : s.resetLow = false)
    (sub : (s.line n).sub = .recovery) (h : (s.line n).link.watch = .observing) :
    exec (.endOfRecovery n) s = .next (s.updLine n (·.becomeReady)) := by
  simp [exec, execEndOfRecovery, Line.observesDa, whileRunning, high, sub, h]

/-- The line that ARG0 names. -/
theorem argLine_of_names {s : State} {n : LineNo} (h : s.names n) : s.argLine = some n := by
  have h' : (s.arg 0).toNat = n.val := h
  have lt : (s.arg 0).toNat < 8 := by omega
  simp only [State.argLine, lineOf, lt, dif_pos]
  exact congrArg some (Fin.ext h')

/-- A number of 8 or more names no line. -/
theorem argLine_of_ge {s : State} (h : 8 ≤ (s.arg 0).toNat) : s.argLine = none := by
  simp [State.argLine, lineOf, h]

/-- The owner of a command that names a line, for the line that ARG0 names. -/
theorem withLine_of_names {s : State} {n : LineNo} (code : Word) (owner : LineNo → State → Answer) (h : s.names n) :
    withLine owner (s.taken code) = owner n (s.taken code) := by
  simp [withLine, argLine_of_names h]

/-- A command that names a line refuses a number outside 0 to 7. -/
theorem withLine_of_ge {s : State} (code : Word) (owner : LineNo → State → Answer) (h : 8 ≤ (s.arg 0).toNat) :
    withLine owner (s.taken code) = refuse .badLine (s.taken code) := by
  simp [withLine, argLine_of_ge h]

end Sys2Proof.Machine
end

