-- ==== Sys2Proof/Laws/Service.lean ====
section
/-! SUPPORT. The operations of the service engine once: what each can change, and how a context is found. -/

namespace Sys2Proof.Machine

/-! ## Finding a context -/

/-- A context that `activeCtx` finds is ACTIVE on the line. -/
theorem activeCtx_some {s : State} {n : LineNo} {c : CtxNo} (h : s.activeCtx n = some c) :
    ∃ r p, (s.ctx c).body = .active r p ∧ r.line = n := by
  have h' := List.find?_some h
  revert h'
  cases (s.ctx c).body <;> simp

/-- With none found, no context is ACTIVE on the line. -/
theorem activeCtx_none {s : State} {n : LineNo} (h : s.activeCtx n = none) {c : CtxNo} {r : Request} {p : Progress}
    (hb : (s.ctx c).body = .active r p) : r.line ≠ n := by
  have mem : c ∈ allCtxs := by fin_cases c <;> decide
  have h' := (List.find?_eq_none.mp h) c mem
  simpa [hb] using h'

/-- The search reads the contexts only. -/
theorem activeCtx_congr {s t : State} (h : t.service.contexts = s.service.contexts) (n : LineNo) :
    t.activeCtx n = s.activeCtx n := by
  simp only [State.activeCtx, State.ctx, h]

/-- A context that `freeCtx` finds is FREE. -/
theorem freeCtx_some {s : State} {c : CtxNo} (h : s.freeCtx = some c) : (s.ctx c).body = .free := by
  simpa using List.find?_some h

/-- With none found, no context is FREE. -/
theorem freeCtx_none {s : State} (h : s.freeCtx = none) (c : CtxNo) : (s.ctx c).body ≠ .free := by
  have mem : c ∈ allCtxs := by fin_cases c <;> decide
  simpa using (List.find?_eq_none.mp h) c mem

/-! ## What the service engine's work for a line can change -/

/-- The work of the service engine for line `n`: of the line only its queue, its abort-owed flag and its slot in flight
change; elsewhere only contexts change, with their generations kept, and events are posted. -/
structure ServiceOnly (n : LineNo) (s t : State) : Prop where
  resetLow : t.resetLow = s.resetLow
  cycle : t.cycle = s.cycle
  banks : t.banks = s.banks
  faults : t.faults = s.faults
  port : t.port = s.port
  pending : t.pending = s.pending
  mask : t.events.mask = s.events.mask
  attemptLimit : t.service.attemptLimit = s.service.attemptLimit
  replyWindow : t.service.replyWindow = s.service.replyWindow
  configIgnored : t.service.configIgnored = s.service.configIgnored
  generation : ∀ c, (t.ctx c).generation = (s.ctx c).generation
  others : ∀ m, m ≠ n → t.line m = s.line m
  same : t.line n = { s.line n with
    queue := (t.line n).queue, abortOwed := (t.line n).abortOwed, slot := (t.line n).slot }

theorem ServiceOnly.refl (n : LineNo) (s : State) : ServiceOnly n s s := by constructor <;> simp

theorem ServiceOnly.trans {n : LineNo} {s t u : State} (h : ServiceOnly n s t) (k : ServiceOnly n t u) :
    ServiceOnly n s u where
  resetLow := k.resetLow.trans h.resetLow
  cycle := k.cycle.trans h.cycle
  banks := k.banks.trans h.banks
  faults := k.faults.trans h.faults
  port := k.port.trans h.port
  pending := k.pending.trans h.pending
  mask := k.mask.trans h.mask
  attemptLimit := k.attemptLimit.trans h.attemptLimit
  replyWindow := k.replyWindow.trans h.replyWindow
  configIgnored := k.configIgnored.trans h.configIgnored
  generation c := (k.generation c).trans (h.generation c)
  others m hm := (k.others m hm).trans (h.others m hm)
  same := by rw [k.same, h.same]

theorem setBody_serviceOnly (n : LineNo) (s : State) (c : CtxNo) (b : ContextBody) : ServiceOnly n s (s.setBody c b) := by
  constructor <;> simp

theorem post_serviceOnly (n : LineNo) (i : EventInfo) (s : State) : ServiceOnly n s (post i s) := by
  constructor <;> simp

/-- An update of the line that touches only its queue, its abort-owed flag and its slot in flight. -/
theorem updLine_serviceOnly (n : LineNo) (s : State) (f : Line → Line)
    (h : ∀ l, f l = { l with queue := (f l).queue, abortOwed := (f l).abortOwed, slot := (f l).slot }) :
    ServiceOnly n s (s.updLine n f) := by
  constructor <;> try simp
  · exact fun m hm => updLine_line_ne s f hm
  · exact h (s.line n)

theorem setSlot_serviceOnly (n : LineNo) (s : State) (x : SlotInFlight) : ServiceOnly n s (s.setSlot n x) :=
  updLine_serviceOnly n s _ fun _ => rfl

theorem setAbort_serviceOnly (n : LineNo) (s : State) (b : Bool) : ServiceOnly n s (s.setAbort n b) :=
  updLine_serviceOnly n s _ fun _ => rfl

theorem finishCtx_serviceOnly (n : LineNo) (c : CtxNo) (r : Request) (a : Nat) (x : Result) (s : State) :
    ServiceOnly n s (finishCtx c r a x s) :=
  (setBody_serviceOnly n s c _).trans (post_serviceOnly n _ _)

theorem failAttempt_serviceOnly (c : CtxNo) (r : Request) (p : Progress) (reason : FailureReason)
    (status : Option EncStatus) (s : State) : ServiceOnly r.line s (failAttempt c r p reason status s) := by
  have owed : ServiceOnly r.line s (if reason.owesAbort then s.setAbort r.line true else s) := by
    split
    · exact setAbort_serviceOnly _ _ _
    · exact ServiceOnly.refl _ _
  simp only [failAttempt]
  split
  · exact owed.trans (setBody_serviceOnly _ _ _ _)
  · exact owed.trans (finishCtx_serviceOnly _ _ _ _ _ _)

theorem judgeDelivery_serviceOnly (n : LineNo) (o : Outcome) (s : State) : ServiceOnly n s (judgeDelivery n o s) := by
  unfold judgeDelivery
  split
  · exact setAbort_serviceOnly _ _ _
  · exact ServiceOnly.refl _ _

theorem acceptReply_serviceOnly (c : CtxNo) (r : Request) (p : Progress) (status : EncStatus) (nibbles : List Nibble)
    (s : State) : ServiceOnly r.line s (acceptReply c r p status nibbles s) := by
  cases status
  case ok => exact finishCtx_serviceOnly _ _ _ _ _ _
  case busy => exact failAttempt_serviceOnly _ _ _ _ _ _
  case requestCheck => exact failAttempt_serviceOnly _ _ _ _ _ _
  case badAddress => exact finishCtx_serviceOnly _ _ _ _ _ _
  case readOnly => exact finishCtx_serviceOnly _ _ _ _ _ _
  case unknownOp => exact finishCtx_serviceOnly _ _ _ _ _ _

theorem advanceCtx_serviceOnly (c : CtxNo) (r : Request) (p : Progress) (x : SlotInFlight) (reply : Slot) (s : State) :
    ServiceOnly r.line s (advanceCtx c r p x reply s) := by
  unfold advanceCtx
  repeat' split
  all_goals first
    | exact ServiceOnly.refl _ _
    | exact failAttempt_serviceOnly _ _ _ _ _ _
    | exact setBody_serviceOnly _ _ _ _
    | exact acceptReply_serviceOnly _ _ _ _ _ _

theorem ctxFrameEnd_serviceOnly (c : CtxNo) (r : Request) (p : Progress) (x : SlotInFlight) (result : FrameResult)
    (s : State) : ServiceOnly r.line s (ctxFrameEnd c r p x result s) := by
  simp only [ctxFrameEnd]
  split
  · exact (setBody_serviceOnly _ _ _ _).trans (advanceCtx_serviceOnly _ _ _ _ _ _)
  · split
    · exact setBody_serviceOnly _ _ _ _
    · exact (setBody_serviceOnly _ _ _ _).trans (failAttempt_serviceOnly _ _ _ _ _ _)

/-- All that the service engine's work at a frame end of line `n` can change. -/
theorem serviceFrameEnd_serviceOnly (n : LineNo) (result : FrameResult) (s : State) :
    ServiceOnly n s (serviceFrameEnd n result s) := by
  simp only [serviceFrameEnd]
  refine (judgeDelivery_serviceOnly n result.outcome s).trans (ServiceOnly.trans ?_ (setSlot_serviceOnly _ _ _))
  generalize judgeDelivery n result.outcome s = u
  split
  · exact ServiceOnly.refl _ _
  · next c hc =>
    obtain ⟨r, p, hb, rfl⟩ := activeCtx_some hc
    simp only [hb]
    exact ctxFrameEnd_serviceOnly _ _ _ _ _ _

/-- All that the choice of a request slot for line `n` can change. -/
theorem chooseSlot_serviceOnly (n : LineNo) (s : State) : ServiceOnly n s (chooseSlot n s).2 := by
  unfold chooseSlot
  repeat' split
  all_goals first
    | exact setSlot_serviceOnly _ _ _
    | exact (setBody_serviceOnly _ _ _ _).trans (setSlot_serviceOnly _ _ _)
    | exact ((setBody_serviceOnly _ _ _ _).trans (updLine_serviceOnly _ _ _ fun _ => rfl)).trans
        (setSlot_serviceOnly _ _ _)

/-- A request slot chosen posts nothing. -/
theorem chooseSlot_events (n : LineNo) (s : State) : (chooseSlot n s).2.events = s.events := by
  unfold chooseSlot
  repeat' split
  all_goals rfl

theorem failForDeparture_serviceOnly (n : LineNo) (reason : FailureReason) (s : State) (c : CtxNo) :
    ServiceOnly n s (failForDeparture reason s c) := by
  unfold failForDeparture
  split
  · exact finishCtx_serviceOnly _ _ _ _ _ _
  · exact finishCtx_serviceOnly _ _ _ _ _ _
  · exact ServiceOnly.refl _ _

theorem failAll_serviceOnly (n : LineNo) (reason : FailureReason) (cs : List CtxNo) (s : State) :
    ServiceOnly n s (cs.foldl (failForDeparture reason) s) := by
  induction cs generalizing s with
  | nil => exact ServiceOnly.refl _ _
  | cons c cs ih => exact (failForDeparture_serviceOnly n reason s c).trans (ih _)

/-- All that the departure of line `n` changes in the service engine. -/
theorem failLine_serviceOnly (n : LineNo) (reason : FailureReason) (s : State) :
    ServiceOnly n s (failLine n reason s) := by
  simp only [failLine]
  exact (failAll_serviceOnly n reason _ s).trans (updLine_serviceOnly _ _ _ fun _ => rfl)

/-- Contexts that fail leave every line as it was. -/
theorem failAll_line (n : LineNo) (reason : FailureReason) (cs : List CtxNo) (s : State) :
    (cs.foldl (failForDeparture reason) s).line n = s.line n := by
  induction cs generalizing s with
  | nil => rfl
  | cons c cs ih =>
    rw [List.foldl_cons, ih]
    unfold failForDeparture
    split <;> rfl

/-- A line that departs has an empty queue and owes no ABORT. -/
theorem failLine_line (n : LineNo) (reason : FailureReason) (s : State) :
    (failLine n reason s).line n = { s.line n with queue := [], abortOwed := false } := by
  simp only [failLine, updLine_line_same, failAll_line]

end Sys2Proof.Machine
end

