-- ==== Sys2Proof/Laws/Lines.lean ====
section
/-! SUPPORT. The operations of the event queue, the fault unit, the position units, the line controllers and the bank unit
once: what each can change. -/

namespace Sys2Proof.Machine

/-! ## The event queue and the fault unit -/

/-- A lost post at a queue with a tail: a LOST tail advances, any other tail gets a LOST entry behind it. -/
theorem recordLoss_append (cycle : BitVec 16) (before : List Event) (tail : Event) :
    recordLoss cycle (before ++ [tail]) =
      before ++ (match tail.info with
        | .lost count => [⟨.lost (satSucc Config.count16Limit count), tail.cycle⟩]
        | _ => [tail, ⟨.lost 1, cycle⟩]) := by
  induction before with
  | nil => obtain ⟨i, c⟩ := tail; cases i <;> rfl
  | cons b bs ih =>
    cases bs with
    | nil => obtain ⟨i, c⟩ := tail; cases i <;> simp [recordLoss]
    | cons b' bs =>
      rw [List.cons_append, List.cons_append, recordLoss, ← List.cons_append, ih]
      rfl

/-- A post never shortens the queue. -/
theorem postEntry_ne_nil (i : EventInfo) (cycle : BitVec 16) (q : List Event) : postEntry i cycle q ≠ [] := by
  unfold postEntry
  split
  · simp
  · rcases List.eq_nil_or_concat q with rfl | ⟨before, tail, rfl⟩
    · simp [recordLoss]
    · rw [List.concat_eq_append, recordLoss_append]
      cases tail.info <;> simp

/-- A cause raised touches the fault cause set and the event queue only. -/
theorem raiseCause_frame (cause : FaultCause) (s : State) :
    raiseCause cause s =
      { s with faults := (raiseCause cause s).faults, events := (raiseCause cause s).events } := by
  unfold raiseCause
  split <;> rfl

@[simp] theorem raiseCause_line (cause : FaultCause) (s : State) (n : LineNo) :
    (raiseCause cause s).line n = s.line n := by
  rw [raiseCause_frame]; rfl

@[simp] theorem raiseCause_cycle (cause : FaultCause) (s : State) : (raiseCause cause s).cycle = s.cycle := by
  rw [raiseCause_frame]

@[simp] theorem raiseCause_banks (cause : FaultCause) (s : State) : (raiseCause cause s).banks = s.banks := by
  rw [raiseCause_frame]

@[simp] theorem raiseCause_service (cause : FaultCause) (s : State) : (raiseCause cause s).service = s.service := by
  rw [raiseCause_frame]

@[simp] theorem raiseCause_port (cause : FaultCause) (s : State) : (raiseCause cause s).port = s.port := by
  rw [raiseCause_frame]

@[simp] theorem raiseCause_pending (cause : FaultCause) (s : State) : (raiseCause cause s).pending = s.pending := by
  rw [raiseCause_frame]

@[simp] theorem raiseCause_resetLow (cause : FaultCause) (s : State) :
    (raiseCause cause s).resetLow = s.resetLow := by
  rw [raiseCause_frame]

@[simp] theorem raiseCause_mask (cause : FaultCause) (s : State) :
    (raiseCause cause s).events.mask = s.events.mask := by
  unfold raiseCause
  split <;> rfl

/-- A raised cause is in the set, with every cause that was there. -/
theorem mem_raiseCause (cause x : FaultCause) (s : State) :
    x ∈ (raiseCause cause s).faults ↔ x = cause ∨ x ∈ s.faults := by
  unfold raiseCause
  split
  · next h => exact ⟨Or.inr, fun h' => h'.elim (· ▸ h) id⟩
  · simp [or_comm]

/-- A raise keeps the set without duplicates. -/
theorem raiseCause_nodup {cause : FaultCause} {s : State} (h : s.faults.Nodup) : (raiseCause cause s).faults.Nodup := by
  unfold raiseCause
  split
  · exact h
  · next hn => exact List.Nodup.append h (by simp) (by simpa using hn)

/-! ## What the work of one line can change -/

/-- Work of line `n` alone: the other lines, the cycle unit, the banks, the command port, the waiting commands and the
class mask stay as they were. -/
structure LineOnly (n : LineNo) (s t : State) : Prop where
  resetLow : t.resetLow = s.resetLow
  cycle : t.cycle = s.cycle
  banks : t.banks = s.banks
  port : t.port = s.port
  pending : t.pending = s.pending
  mask : t.events.mask = s.events.mask
  others : ∀ m, m ≠ n → t.line m = s.line m

theorem LineOnly.refl (n : LineNo) (s : State) : LineOnly n s s := by constructor <;> simp

theorem LineOnly.trans {n : LineNo} {s t u : State} (h : LineOnly n s t) (k : LineOnly n t u) : LineOnly n s u where
  resetLow := k.resetLow.trans h.resetLow
  cycle := k.cycle.trans h.cycle
  banks := k.banks.trans h.banks
  port := k.port.trans h.port
  pending := k.pending.trans h.pending
  mask := k.mask.trans h.mask
  others m hm := (k.others m hm).trans (h.others m hm)

theorem ServiceOnly.lineOnly {n : LineNo} {s t : State} (h : ServiceOnly n s t) : LineOnly n s t :=
  ⟨h.resetLow, h.cycle, h.banks, h.port, h.pending, h.mask, h.others⟩

theorem updLine_lineOnly (n : LineNo) (s : State) (f : Line → Line) : LineOnly n s (s.updLine n f) := by
  constructor <;> try simp
  exact fun m hm => updLine_line_ne s f hm

theorem updPos_lineOnly (n : LineNo) (s : State) (f : PositionUnit → PositionUnit) : LineOnly n s (s.updPos n f) :=
  updLine_lineOnly n s _

theorem post_lineOnly (n : LineNo) (i : EventInfo) (s : State) : LineOnly n s (post i s) := by
  constructor <;> simp

theorem raiseCause_lineOnly (n : LineNo) (cause : FaultCause) (s : State) : LineOnly n s (raiseCause cause s) := by
  constructor <;> simp

/-! ## Position units -/

theorem compareReference_lineOnly (n : LineNo) (ew : ErrWrn) (s : State) : LineOnly n s (compareReference n ew s) := by
  unfold compareReference
  split
  · exact LineOnly.refl _ _
  · exact (updPos_lineOnly n s _).trans (post_lineOnly _ _ _)

theorem continuityLost_lineOnly (n : LineNo) (age : Nat) (s : State) : LineOnly n s (continuityLost n age s) := by
  simp only [continuityLost]
  split
  · exact (post_lineOnly n _ s).trans (raiseCause_lineOnly _ _ _)
  · exact post_lineOnly _ _ _

theorem takeArmedPreset_lineOnly (n : LineNo) (s : State) : LineOnly n s (takeArmedPreset n s) := by
  unfold takeArmedPreset
  split
  · exact LineOnly.refl _ _
  · exact (updPos_lineOnly n s _).trans (post_lineOnly _ _ _)

theorem applySample_lineOnly (n : LineNo) (case : SampleCase) (r : Nat) (s : State) :
    LineOnly n s (applySample n case r s) := by
  simp only [applySample]
  split
  · refine LineOnly.trans ?_ (takeArmedPreset_lineOnly _ _)
    split
    · exact (updPos_lineOnly n s _).trans (continuityLost_lineOnly _ _ _)
    · exact updPos_lineOnly n s _
  · exact LineOnly.refl _ _

/-- All that the position unit's work at a frame end of line `n` can change. -/
theorem positionFrameEnd_lineOnly (n : LineNo) (raw : Nat) (ew : ErrWrn) (s : State) :
    LineOnly n s (positionFrameEnd n raw ew s).1 := by
  simp only [positionFrameEnd]
  split
  · exact compareReference_lineOnly _ _ _
  · exact (compareReference_lineOnly n ew s).trans (applySample_lineOnly _ _ _ _)

theorem dropPreset_lineOnly (n : LineNo) (entered : LineState) (s : State) :
    LineOnly n s (dropPreset n entered s) := by
  unfold dropPreset
  split
  · exact LineOnly.refl _ _
  · exact (updPos_lineOnly n s _).trans (post_lineOnly _ _ _)

/-- After a drop the line has no armed preset; nothing else of it changes. -/
theorem dropPreset_line (n : LineNo) (entered : LineState) (s : State) :
    (dropPreset n entered s).line n = { s.line n with pos := { (s.line n).pos with preset := none } } := by
  unfold dropPreset
  split
  · next h => simp [← h]
  · simp [State.updPos]

/-! ## Line controllers -/

/-- All that a departure of line `n` can change. -/
theorem departService_lineOnly (n : LineNo) (d : Departure) (reason : LineReason) (s : State) :
    LineOnly n s (departService n d reason s) := by
  simp only [departService]
  have h : LineOnly n s (dropPreset n d.state (failLine n d.reason
      (post (.lineState n d.state reason) (s.updLine n (·.depart d))))) :=
    (((updLine_lineOnly n s _).trans (post_lineOnly _ _ _)).trans (failLine_serviceOnly _ _ _).lineOnly).trans
      (dropPreset_lineOnly _ _ _)
  split
  · exact h.trans (raiseCause_lineOnly _ _ _)
  · exact h

/-- What a line holds after its departure: out of service, with its counts, profile, ring and anchor state kept. -/
theorem departService_line (n : LineNo) (d : Departure) (reason : LineReason) (s : State) :
    (departService n d reason s).line n =
      { s.line n with
        state := d.state, sub := .none, waited := none, link := { (s.line n).link with watch := .none },
        queue := [], abortOwed := false, pos := { (s.line n).pos with preset := none } } := by
  simp only [departService]
  split
  · simp [dropPreset_line, failLine_line, Line.depart]
  · simp [dropPreset_line, failLine_line, Line.depart]

theorem deferredDisable_lineOnly (n : LineNo) (s : State) : LineOnly n s (deferredDisable n s) := by
  unfold deferredDisable
  split
  · exact (updLine_lineOnly n s _).trans (departService_lineOnly _ _ _ _)
  · exact LineOnly.refl _ _

theorem enterProbing_lineOnly (n : LineNo) (da : Bool) (reason : LineReason) (s : State) :
    LineOnly n s (enterProbing n da reason s) := by
  simp only [enterProbing]
  exact ((updLine_lineOnly n s _).trans (post_lineOnly _ _ _)).trans (updLine_lineOnly _ _ _)

theorem probeTimeout_lineOnly (n : LineNo) (s : State) : LineOnly n s (probeTimeout n s) := by
  unfold probeTimeout
  split
  · exact departService_lineOnly _ _ _ _
  · exact LineOnly.refl _ _

theorem judgeProbe_lineOnly (n : LineNo) (goodRun : Nat) (result : FrameResult) (s : State) :
    LineOnly n s (judgeProbe n goodRun result s) := by
  unfold judgeProbe
  split
  · exact (updLine_lineOnly n s _).trans (post_lineOnly _ _ _)
  · exact (updLine_lineOnly n s _).trans (probeTimeout_lineOnly _ _)

/-- All that a probe frame end of line `n` can change. -/
theorem probeEnd_lineOnly (n : LineNo) (result : FrameResult) (s : State) : LineOnly n s (probeEnd n result s) := by
  simp only [probeEnd]
  exact ((updLine_lineOnly n s _).trans (judgeProbe_lineOnly _ _ _ _)).trans (deferredDisable_lineOnly _ _)

theorem countFailure_lineOnly (n : LineNo) (s : State) : LineOnly n s (countFailure n s) := by
  simp only [countFailure]
  split
  · split
    · exact (updLine_lineOnly n s _).trans (post_lineOnly _ _ _)
    · exact updLine_lineOnly n s _
  · split
    · exact (updLine_lineOnly n s _).trans (departService_lineOnly _ _ _ _)
    · exact updLine_lineOnly n s _
  · exact LineOnly.refl _ _

theorem countGood_lineOnly (n : LineNo) (s : State) : LineOnly n s (countGood n s) := by
  simp only [countGood]
  split
  · exact updLine_lineOnly n s _
  · split
    · exact (updLine_lineOnly n s _).trans (post_lineOnly _ _ _)
    · exact updLine_lineOnly n s _
  · exact LineOnly.refl _ _

theorem countSample_lineOnly (n : LineNo) (status : SampleStatus) (s : State) :
    LineOnly n s (countSample n status s) := by
  unfold countSample
  split
  · exact countGood_lineOnly _ _
  · exact countFailure_lineOnly _ _

/-- All that a recovery-limit expiry of line `n` can change. -/
theorem recoveryExpiry_lineOnly (n : LineNo) (s : State) : LineOnly n s (recoveryExpiry n s) := by
  simp only [recoveryExpiry]
  refine (updLine_lineOnly n s (·.newWait)).trans ?_
  split
  · exact (updLine_lineOnly n _ _).trans (probeTimeout_lineOnly _ _)
  · exact (post_lineOnly n _ _).trans (countFailure_lineOnly _ _)
  · exact (post_lineOnly n _ _).trans (countFailure_lineOnly _ _)
  · exact LineOnly.refl _ _

/-- A running frame started for line `n` changes that line, a context and nothing else; it posts nothing. -/
theorem startRunningFrame_lineOnly (n : LineNo) (s : State) : LineOnly n s (startRunningFrame n s) := by
  simp only [startRunningFrame]
  exact (chooseSlot_serviceOnly n s).lineOnly.trans (updLine_lineOnly _ _ _)

/-! ## The bank unit -/

@[simp] theorem backId_ne_front (u : BankUnit) : u.backId ≠ u.front := by
  cases h : u.front <;> simp [BankUnit.backId, BankId.other, h]

@[simp] theorem updBack_frontBank (u : BankUnit) (f : Bank → Bank) : (u.updBack f).bank u.front = u.bank u.front := by
  cases h : u.front <;> simp [BankUnit.updBack, BankUnit.backId, BankId.other, BankUnit.setBank, BankUnit.bank, h]

@[simp] theorem updBack_backBank (u : BankUnit) (f : Bank → Bank) : (u.updBack f).bank u.backId = f u.backBank := by
  cases h : u.front <;>
    simp [BankUnit.updBack, BankUnit.backBank, BankUnit.backId, BankId.other, BankUnit.setBank, BankUnit.bank, h]

@[simp] theorem updBack_front (u : BankUnit) (f : Bank → Bank) : (u.updBack f).front = u.front := by
  cases h : u.front <;> simp [BankUnit.updBack, BankUnit.backId, BankId.other, BankUnit.setBank, h]

@[simp] theorem updBack_backId (u : BankUnit) (f : Bank → Bank) : (u.updBack f).backId = u.backId := by
  simp [BankUnit.backId]

@[simp] theorem updBack_backStatus (u : BankUnit) (f : Bank → Bank) : (u.updBack f).backStatus = u.backStatus := by
  cases h : u.front <;> simp [BankUnit.updBack, BankUnit.backId, BankId.other, BankUnit.setBank, h]

@[simp] theorem updBack_hold (u : BankUnit) (f : Bank → Bank) : (u.updBack f).hold = u.hold := by
  cases h : u.front <;> simp [BankUnit.updBack, BankUnit.backId, BankId.other, BankUnit.setBank, h]

@[simp] theorem swap_bank (u : BankUnit) (i : BankId) : u.swap.bank i = u.bank i := by cases i <;> rfl

@[simp] theorem swap_front (u : BankUnit) : u.swap.front = u.backId := rfl

/-- A record written changes the line's ring and its record in the back bank, and nothing else. -/
theorem writeRecord_frame (n : LineNo) (status : SampleStatus) (ew : Option ErrWrn) (latency : Option Nat) (s : State) :
    writeRecord n status ew latency s =
      { s.updLine n fun l => { l with ring := l.ring.append (entryOf s n status ew latency) } with
        banks := (writeRecord n status ew latency s).banks } := rfl

/-- A completion changes the banks, the event queue and the cycle state, and nothing else. -/
theorem completeCycle_frame (s : State) :
    completeCycle s =
      { s with
        banks := (completeCycle s).banks
        events := (completeCycle s).events
        cycle := { s.cycle with state := .idle } } := by
  simp only [completeCycle]
  split <;> rfl

/-- The banks after a completion (R96, R97). -/
theorem completeCycle_banks (s : State) :
    (completeCycle s).banks =
      (let stamped := s.banks.updBack fun b => { b with header := { b.header with completed := s.cycle.timestamp } }
       if s.banks.hold then { stamped with backStatus := .held } else stamped.swap) := by
  simp only [completeCycle]
  split <;> rfl

/-- What a record can do to the cycle: nothing, take its line from the outstanding set, or complete the cycle. -/
theorem recordWritten_cases (n : LineNo) (s : State) :
    recordWritten n s = s ∨
      (n ∈ s.cycle.outstanding ∧ s.cycle.state = .active ∧
        (let left := { s with cycle := { s.cycle with outstanding := s.cycle.outstanding.filter (· ≠ n) } }
         (left.cycle.outstanding ≠ [] ∧ recordWritten n s = left) ∨
           (left.cycle.outstanding = [] ∧ recordWritten n s = completeCycle left))) := by
  simp only [recordWritten]
  split
  · next h =>
    simp only [Bool.and_eq_true, decide_eq_true_eq, List.contains_iff_mem] at h
    right
    refine ⟨h.2, h.1, ?_⟩
    split
    · next h' => exact Or.inr ⟨by simpa using h', rfl⟩
    · next h' => exact Or.inl ⟨by simpa using h', rfl⟩
  · exact Or.inl rfl

end Sys2Proof.Machine
end

