-- ==== Sys2Proof/Laws/PerInstr.lean ====
section
/-! SUPPORT. Claims made for every command, one lemma for each constructor. -/

namespace Sys2Proof.Laws.WrittenWord

/-- Of the well-formed commands that are host writes, exactly those other than REGISTER_WRITE address a word with a
behaviour of its own (R175, R180). -/
def Statement (i : Instr) : Prop :=
  wellFormed i = true → ∀ (a : Address) (v : Word), encodeWrite i = some (a, v) →
    (hasOwnWrite a = true ↔ ∀ (x : Address) (y : Word), i ≠ .registerWrite x y)

/-- A command that no bus access makes addresses no word. -/
theorem of_none {i : Instr} (h : encodeWrite i = none) : Statement i := by
  intro _ a v he
  rw [h] at he
  cases he

/-- A command that writes to a word with a behaviour of its own. -/
theorem of_own {i : Instr} {a : Address} {v : Word} (h : encodeWrite i = some (a, v)) (own : hasOwnWrite a = true)
    (ne : ∀ (x : Address) (y : Word), i ≠ .registerWrite x y) : Statement i := by
  intro _ a' v' he
  rw [h] at he
  cases he
  exact ⟨fun _ => ne, fun _ => own⟩

/-- Every profile word has a behaviour of its own. -/
theorem profile_own : ∀ (n : LineNo) (k : Fin 5), hasOwnWrite (profileAddress n k) = true := by decide

theorem lineEnable (da : Bool) : Statement (.lineEnable da) := of_own rfl (by decide) (by simp)

theorem lineDisable : Statement (.lineDisable) := of_own rfl (by decide) (by simp)

theorem lineRestart (da : Bool) : Statement (.lineRestart da) := of_own rfl (by decide) (by simp)

theorem cycleStart : Statement (.cycleStart) := of_own rfl (by decide) (by simp)

theorem cycleStop : Statement (.cycleStop) := of_own rfl (by decide) (by simp)

theorem trigger : Statement (.trigger) := of_own rfl (by decide) (by simp)

theorem bankHold : Statement (.bankHold) := of_own rfl (by decide) (by simp)

theorem bankRelease : Statement (.bankRelease) := of_own rfl (by decide) (by simp)

theorem setPreset : Statement (.setPreset) := of_own rfl (by decide) (by simp)

theorem cancelPreset : Statement (.cancelPreset) := of_own rfl (by decide) (by simp)

theorem ackContinuity : Statement (.ackContinuity) := of_own rfl (by decide) (by simp)

theorem svcOpen : Statement (.svcOpen) := of_own rfl (by decide) (by simp)

theorem svcCancel : Statement (.svcCancel) := of_own rfl (by decide) (by simp)

theorem svcRelease : Statement (.svcRelease) := of_own rfl (by decide) (by simp)

theorem eventPop : Statement (.eventPop) := of_own rfl (by decide) (by simp)

theorem eventFlush : Statement (.eventFlush) := of_own rfl (by decide) (by simp)

theorem faultClear : Statement (.faultClear) := of_own rfl (by decide) (by simp)

theorem softReset : Statement (.softReset) := of_own rfl (by decide) (by simp)

theorem badCommand (value : Word) : Statement (.badCommand value) := of_own rfl (by decide) (by simp)

theorem profileWrite (line : LineNo) (word : Fin 5) (value : Word) : Statement (.profileWrite line word value) := 
  of_own rfl (profile_own line word) (by simp)

theorem cycleConfigurationWrite (value : Word) : Statement (.cycleConfigurationWrite value) := of_own rfl (by decide) (by simp)

theorem serviceConfigurationWrite (value : Word) : Statement (.serviceConfigurationWrite value) := of_own rfl (by decide) (by simp)

theorem classMaskWrite (value : Word) : Statement (.classMaskWrite value) := of_own rfl (by decide) (by simp)

theorem registerWrite (address : Address) (value : Word) : Statement (.registerWrite address value) := by
  intro wf a v he
  cases he
  simp only [wellFormed, Bool.not_eq_true'] at wf
  simp [wf]

theorem syncEdge : Statement (.syncEdge) := of_none rfl

theorem timerExpiry : Statement (.timerExpiry) := of_none rfl

theorem hardwareReset : Statement (.hardwareReset) := of_none rfl

theorem resetRelease : Statement (.resetRelease) := of_none rfl

theorem probeFrameEnd (line : LineNo) (samples : List Bool) : Statement (.probeFrameEnd line samples) := of_none rfl

theorem runningFrameEnd (line : LineNo) (samples : List Bool) : Statement (.runningFrameEnd line samples) := of_none rfl

theorem endOfRecovery (line : LineNo) : Statement (.endOfRecovery line) := of_none rfl

theorem recoveryLimitExpiry (line : LineNo) : Statement (.recoveryLimitExpiry line) := of_none rfl

theorem timestampCounterTick : Statement (.timestampCounterTick) := of_none rfl

end Sys2Proof.Laws.WrittenWord
end

