-- ==== Sys2Proof/Tests/Slice0.lean ====
section
/-! SUPPORT. Small tests of one step each, with the expected values from the spec's own examples and tables, and a witness
for the hypotheses of each statement. -/

namespace Sys2Proof.Tests

open Sys2Proof.Machine

/-! ## Small states -/

/-- The next state of an outcome. -/
def after : Host.Outcome State Fault Refusal → State
  | .next s => s
  | _ => State.reset

/-- The reset state with its argument words. -/
def withArgs (args : Vector Word 6) (s : State) : State := { s with port := { s.port with args := args } }

/-- ARG0 alone. -/
def arg0 (w : Word) : State := withArgs #v[w, 0, 0, 0, 0, 0] State.reset

/-- The reset state with line 0 changed. -/
def line0 (f : Line → Line) : State := State.reset.updLine 0 f

/-- A frame with the default widths, W = 20, and deadline 5. -/
def frame20 : Frame := { slot := .idle, deadline := 5, multiturn := 0, singleturn := 20, rate := 2 }

/-- A line in RUN with a frame in flight, L_meas 3. -/
def inFrame (l : Line) : Line :=
  { l with state := .run, sub := .frame, lMeas := 3, waited := none, link := { l.link with frame := some frame20 } }

/-- A line in PROBING with a probe frame in flight. -/
def inProbe (l : Line) : Line :=
  { l with state := .probing, sub := .frame, link := { l.link with frame := some { frame20 with deadline := 31 } } }

/-- A line in a state, in RECOVERY, with so many µs waited and DA observed. -/
def recovering (micros : Nat) (state : LineState) (l : Line) : Line :=
  { l with state := state, sub := .recovery, waited := some micros, link := { l.link with watch := .observing } }

/-- A line in a state whose recovery wait has just reached the limit of 40 µs. -/
def inRecovery : LineState → Line → Line := recovering 40

/-- A line in RUN, READY. -/
def ready (l : Line) : Line := { l with state := .run, sub := .ready }

/-- A line in LOST. -/
def lost (l : Line) : Line := { l with state := .lost, sub := .none }

/-- The anchor of the wrap-around example of Chapter 3: r_prev 0xFFFF0, E 0x1FFFF0, AGE 1. -/
def anchored (age : Nat) (l : Line) : Line :=
  { l with
    pos := { l.pos with
      anchored := true, rPrev := 0xFFFF0, extended := 0x1FFFF0, continuity := .valid, age := age } }

/-- Line 0 in FRAME in an ACTIVE cycle of which it is the only outstanding line. -/
def lastFrame (f : Line → Line) : State :=
  let s := line0 fun l => f (inFrame l)
  { s with
    cycle := { s.cycle with state := .active, participating := [0], outstanding := [0] }
    banks := { s.banks with backStatus := .filling } }

/-- The samples of a CHECK_OK frame with ERR and WRN clear and an idle reply slot, START at sample 3. -/
def goodSamples (raw : Nat) : List Bool := encoderSamples 3 20 raw ⟨false, false⟩ .idle

/-- The cycle unit STARTED with a source code. -/
def started (code : BitVec 2) (s : State) : State :=
  { s with cycle := { s.cycle with run := .started, sourceCode := code } }

/-- A request of a COMMAND 0x5A on line 0. -/
def request5A : Request := { line := 0, op := .command, code := 0x5A, attemptLimit := 3, replyWindow := 32 }

/-- Context 2 with a body, and line 0 in RUN. -/
def withCtx (b : ContextBody) : State := (line0 ready).setCtx 2 { generation := 4, body := b }

/-- Context 2 ACTIVE in a phase. -/
def active (phase : Phase) : State := withCtx (.active request5A { attempts := 1, framesUsed := 0, phase := phase })

/-- Context 2 QUEUED at the head of line 0's queue. -/
def queued : State := (withCtx (.queued request5A)).updLine 0 fun l => { l with queue := [2] }

/-- The ticket 2/4 in ARG0. -/
def ticket24 (s : State) : State := withArgs #v[0x0402, 0, 0, 0, 0, 0] s

/-- A queue of so many SOFT_RESET_DONE entries. -/
def fullTo (n : Nat) : State := State.reset.setEntries (List.replicate n ⟨.softResetDone, 0⟩)

/-! ## Well-formed commands: one refused term for each check -/

theorem test_badCommand_with_assigned_code_is_ill_formed : wellFormed (.badCommand 0x01) = false := by decide

theorem test_registerWrite_to_cmd_is_ill_formed : wellFormed (.registerWrite 0x002 0) = false := by decide

theorem test_probeFrameEnd_without_sample_is_ill_formed : wellFormed (.probeFrameEnd 0 []) = false := by decide

theorem test_runningFrameEnd_with_88_samples_is_ill_formed :
    wellFormed (.runningFrameEnd 0 (List.replicate 88 false)) = false := by decide

theorem test_reserved_bits_make_a_bad_command : wellFormed (.badCommand 0x101) = true := by decide

/-! ## The window map and the command table (R175, R182) -/

theorem test_decode_write_to_cmd : decodeWrite false 0x002 0x3F = .softReset := by decide

theorem test_decode_profile_address : decodeWrite false 0x044 7 = .profileWrite 0 4 7 := by decide

theorem test_decode_class_mask : decodeWrite false 0x025 0xF = .classMaskWrite 0xF := by decide

/-- The head view of an empty queue, but for its class: kind NONE, no line, no ticket, detail 0, cycle number 0 (R164). -/
theorem test_head_view_of_the_empty_queue :
    hostRead State.reset 0x020 &&& 0xFFFFF8FF = 0 ∧ hostRead State.reset 0x021 = 0 ∧ hostRead State.reset 0x022 = 0 := by decide

theorem test_table_word_spells_nothing : decodeTableWord 32 0x01 = none := by decide

/-! ## The encoder link: the examples of Chapter 1 -/

set_option maxRecDepth 10000 in
/-- The COMMAND request 0x5A has the check nibble 0xD. -/
theorem test_command_request_check_nibble : request5A.message = [0x3, 0x5, 0xA, 0xD] := by decide

/-- The BUSY reply has the check nibble 0x2, and the OK reply 0x0. -/
theorem test_reply_check_nibbles : crc4 [0x3] = 0x2 ∧ crc4 [0x0] = 0x0 := by decide

/-- The frame of the layout example has 52 clock periods; the shortest has 27 and the longest 88. -/
theorem test_frame_lengths : frameLength 3 12 20 = 52 ∧ frameLength 2 0 8 = 27 ∧ frameLength 31 10 30 = 88 := by decide

/-- NO_START at deadline 5 clocks 6 periods, NO_ACK 2. -/
theorem test_early_close_lengths : periodsClocked frame20 .noStart = 6 ∧ periodsClocked frame20 .noAck = 2 := by decide

set_option maxRecDepth 10000 in
/-- A frame is judged by its samples (R12). -/
theorem test_frame_outcomes :
    judgeFrame frame20 [true] = .noAck ∧ judgeFrame frame20 [false] = .noStart ∧
      judgeFrame frame20 (goodSamples 0x30) = .checkOk 3 0x30 ⟨false, false⟩ .idle ∧
      judgeFrame frame20 ((goodSamples 0x30).set 10 true) = .checkFail 3 := by decide

/-! ## Position processing: the examples of Chapter 3 -/

/-- The 8-bit reflected value 0xD6 decodes to 155, and to 101 inverted. -/
theorem test_reflected_decoding : fromReflected 8 0xD6 = 155 ∧ invertValue 8 155 = 101 := by decide

/-- The four differences of the wrap-around example. -/
theorem test_signed_differences :
    signedDelta 20 0xFFFF0 0x30 = 64 ∧ signedDelta 20 0x30 0x80030 = -524288 ∧ signedDelta 20 0x30 0x50 = 32 ∧
      signedDelta 20 0x50 0xFFFE0 = -112 := by decide

set_option maxRecDepth 10000 in
/-- Cycle 1 of the wrap-around example: E goes on upward to 0x200030. -/
theorem test_runningFrameEnd_wraps_upward :
    let l := (after (exec (.runningFrameEnd 0 (goodSamples 0x30)) (lastFrame (anchored 1)))).line 0
    l.pos.extended = 0x200030 ∧ l.pos.rPrev = 0x30 ∧ l.pos.age = 0 := by decide

set_option maxRecDepth 10000 in
/-- The jump of cycle 2 leaves the anchor state and is counted as a failure. -/
theorem test_runningFrameEnd_jump_is_a_failure :
    let l := (after (exec (.runningFrameEnd 0 (goodSamples 0x7FFF0)) (lastFrame (anchored 1)))).line 0
    l.pos.extended = 0x1FFFF0 ∧ l.pos.age = 1 ∧ l.failures = 1 := by decide

/-! ## Line commands -/

/-- The example of Chapter 11: LINE_ENABLE of line 2 answers 0x0000_0100 and 0. -/
theorem test_lineEnable_answers :
    let s := after (exec (.lineEnable true) (arg0 2))
    hostRead s 0x009 = 0x0100 ∧ hostRead s 0x00A = 0 ∧ (s.line 2).state = .probing := by decide

/-- With S = 31 it is refused with BAD_PROFILE and check 1. -/
theorem test_lineEnable_refuses_a_bad_profile :
    let s := after (exec (.lineEnable true) (withArgs #v[0, 0, 0, 0, 0, 0]
      (line0 fun l => { l with profile := { l.profile with singleturn := 31 } })))
    hostRead s 0x009 = 0x0104 ∧ hostRead s 0x00A = 1 := by decide

theorem test_lineRestart_needs_lost : hostRead (after (exec (.lineRestart false) (arg0 0))) 0x009 = 0x0305 := by decide

theorem test_lineDisable_in_frame_is_pending :
    let s := after (exec .lineDisable (line0 inFrame))
    (s.line 0).disablePending = true ∧ hostRead s 0x00A = 1 := by decide

theorem test_profileWrite_outside_off_is_ignored :
    let s := after (exec (.profileWrite 0 0 0x15) (line0 ready))
    hostRead s 0x040 = 0x14 ∧ hostRead s 0x080 = 0x212 := by decide

/-- The default profile words (R179). -/
theorem test_default_profile_words :
    hostRead State.reset 0x040 = 0x14 ∧ hostRead State.reset 0x041 = 0x01082822 ∧
      hostRead State.reset 0x042 = 0x04040802 ∧ hostRead State.reset 0x043 = 0x00040000 ∧
      hostRead State.reset 0x044 = 0 := by decide

theorem test_endOfRecovery_in_probing_starts_a_frame :
    ((after (exec (.endOfRecovery 0) (line0 (inRecovery .probing)))).line 0).sub = .frame := by decide

theorem test_recoveryLimitExpiry_before_the_limit_is_none :
    after (exec (.recoveryLimitExpiry 0) (line0 (recovering 39 .run))) = line0 (recovering 39 .run) := by decide

theorem test_endOfRecovery_during_the_disregard_is_none :
    let s := line0 fun l => { inRecovery .run l with link := { l.link with watch := .disregarding 1 } }
    after (exec (.endOfRecovery 0) s) = s := by decide

/-- The first expiry of the pulled cable of Chapter 2 counts one failure and keeps RUN. -/
theorem test_recoveryLimitExpiry_counts_a_failure :
    let l := (after (exec (.recoveryLimitExpiry 0) (line0 (inRecovery .run)))).line 0
    l.failures = 1 ∧ l.state = .run ∧ l.waited = some 0 := by decide

set_option maxRecDepth 10000 in
theorem test_probeFrameEnd_starts_a_good_run :
    let l := (after (exec (.probeFrameEnd 0 (goodSamples 0)) (line0 inProbe))).line 0
    l.goodRun = 1 ∧ l.probeFrames = 1 ∧ l.lastLatency = some 3 := by decide

/-! ## Cycles and banks -/

theorem test_cycleStart_refuses_source_code_3 :
    let s := after (exec .cycleStart { State.reset with cycle := { CycleUnit.reset with sourceCode := 3 } })
    hostRead s 0x009 = 0x0803 ∧ hostRead s 0x00A = 1 := by decide

theorem test_cycleStop_needs_started : hostRead (after (exec .cycleStop State.reset)) 0x009 = 0x0905 := by decide

theorem test_trigger_starts_a_frame :
    let s := after (exec .trigger (started 0 (line0 ready)))
    s.cycle.number = 1 ∧ s.cycle.outstanding = [0] ∧ (s.line 0).sub = .frame := by decide

theorem test_syncEdge_with_no_line_publishes_an_empty_cycle :
    let s := after (exec .syncEdge (started 1 State.reset))
    s.cycle.number = 1 ∧ s.banks.front = .b ∧ s.events.entries = [⟨.cycleDone .b, 1⟩] := by decide

/-- The cycle unit STARTED with source TIMER, period 1000, and so many µs counted. -/
def timing (elapsed : Nat) (s : State) : State :=
  started 2 { s with cycle := { s.cycle with timer := .running elapsed } }

/-- An expiry taken 5 µs late leaves the schedule as it was; one before the period is over is none (R74). -/
theorem test_timerExpiry_keeps_the_schedule :
    (after (exec .timerExpiry (timing 1005 State.reset))).cycle.timer = .running 5 ∧
      (after (exec .timerExpiry (timing 1005 State.reset))).cycle.number = 1 ∧
      after (exec .timerExpiry (timing 999 State.reset)) = timing 999 State.reset := by decide

theorem test_cycleConfigurationWrite_stores :
    hostRead (after (exec (.cycleConfigurationWrite 0x00640002) State.reset)) 0x010 = 0x00640002 := by decide

theorem test_timestampCounterTick_wraps :
    (after (exec .timestampCounterTick
      { State.reset with cycle := { CycleUnit.reset with timestamp := 0xFFFFFFFF } })).cycle.timestamp = 0 := by decide

set_option maxRecDepth 10000 in
theorem test_runningFrameEnd_completes_and_publishes :
    let s := after (exec (.runningFrameEnd 0 (goodSamples 5)) (lastFrame id))
    s.cycle.state = .idle ∧ s.banks.front = .b ∧ (s.banks.b.records[0]).status = .good := by decide

theorem test_bankHold_answers_whether_set :
    hostRead (after (exec .bankHold { State.reset with banks := { BankUnit.reset with hold := true } })) 0x00A = 1 := by
  decide

theorem test_bankRelease_publishes_late :
    let s := after (exec .bankRelease
      { State.reset with banks := { BankUnit.reset with hold := true, backStatus := .held } })
    s.banks.front = .b ∧ s.banks.b.header.publication = .late ∧ hostRead s 0x00A = 1 := by decide

/-! ## Position commands -/

theorem test_setPreset_takes_the_low_half_of_arg2 :
    ((after (exec .setPreset (withArgs #v[0, 0x2234, 0xFFFF0001, 0, 0, 0] (line0 ready)))).line 0).pos.preset
      = some 0x100002234 := by decide

theorem test_cancelPreset_needs_a_preset : hostRead (after (exec .cancelPreset (arg0 0))) 0x009 = 0x1905 := by decide

theorem test_ackContinuity_refuses_none : hostRead (after (exec .ackContinuity (arg0 0))) 0x009 = 0x1A05 := by decide

/-! ## Service commands -/

theorem test_svcOpen_answers_the_ticket :
    let s := after (exec .svcOpen (withArgs #v[0, 1, 0x40, 2, 0, 0] (line0 ready)))
    hostRead s 0x009 = 0x2000 ∧ hostRead s 0x00A = 0x0100 ∧ (s.line 0).queue = [0] := by decide

theorem test_svcOpen_refuses_count_17 :
    hostRead (after (exec .svcOpen (withArgs #v[0, 1, 0x40, 17, 0, 0] (line0 ready)))) 0x009 = 0x2003 := by decide

theorem test_svcCancel_of_an_active_context_owes_an_abort :
    let s := after (exec .svcCancel (ticket24 (active (.sending 1))))
    (s.line 0).abortOwed = true ∧ hostRead s 0x00A = 1 := by decide

theorem test_svcRelease_keeps_the_generation :
    (after (exec .svcRelease (ticket24 (withCtx (.finished request5A 1 (doneResult .ok [] 6)))))).ctx 2
      = { generation := 4, body := .free } := by decide

theorem test_serviceConfigurationWrite_refuses_window_3 :
    let s := after (exec (.serviceConfigurationWrite 0x0303) State.reset)
    hostRead s 0x011 = 0x2003 ∧ s.service.configIgnored = true := by decide

/-- The activation of a queued context sends nibble 0 in a first-nibble slot. -/
theorem test_request_slot_of_an_activation : (chooseSlot 0 queued).1 = .first 0x3 := by decide

/-! ## Events, faults and resets -/

/-- The queue at the edge of its room, Chapter 9: at 31 entries a post becomes a LOST entry of count 1. -/
theorem test_post_at_31_entries_is_lost :
    ((post .softResetDone (fullTo 31)).events.entries.getLast?) = some ⟨.lost 1, 0⟩ := by decide

theorem test_eventPop_answers_the_entries_left : hostRead (after (exec .eventPop (fullTo 3))) 0x00A = 2 := by decide

theorem test_eventFlush_answers_the_entries_removed : hostRead (after (exec .eventFlush (fullTo 3))) 0x00A = 3 := by decide

theorem test_classMaskWrite_reads_back_with_system :
    hostRead (after (exec (.classMaskWrite 0xFFFFFFE5) State.reset)) 0x025 = 0x15 := by decide

theorem test_faultClear_keeps_a_lost_line :
    (after (exec .faultClear { line0 lost with faults := [.reset, .lineLost 0] })).faults = [.lineLost 0] := by decide

theorem test_softReset_posts_its_event :
    hostRead (after (exec .softReset State.reset)) 0x001 = 0x30 ∧
      hostRead (after (exec .softReset State.reset)) 0x020 = 0x0418 := by decide

theorem test_hardwareReset_stops_the_host : hostRead (after (exec .hardwareReset State.reset)) 0x000 = 0 := by decide

theorem test_resetRelease_gives_the_reset_state :
    after (exec .resetRelease (after (exec .hardwareReset (fullTo 5)))) = State.reset := by decide

theorem test_badCommand_code_is_refused : hostRead (after (exec (.badCommand 0x101) State.reset)) 0x009 = 0x0101 := by
  decide

theorem test_registerWrite_stores_arg5 : hostRead (after (exec (.registerWrite 0x008 9) State.reset)) 0x008 = 9 := by decide

theorem test_registerWrite_to_id_is_ignored : after (exec (.registerWrite 0x000 9) State.reset) = State.reset := by decide

/-! ## Witnesses: a state and operands that meet the hypotheses of each statement, clause by clause -/

theorem witness_StepRunsTheFrontCommand : State.reset.pending = [] := rfl

theorem witness_NothingIsTakenWhileResetIsLow :
    (after (exec .hardwareReset State.reset)).resetLow = true ∧ Instr.syncEdge ≠ .hardwareReset ∧
      Instr.syncEdge ≠ .resetRelease := by decide

theorem witness_RefusedCommandChangesOnlyThePort :
    State.reset.resetLow = false ∧ encodeWrite .eventPop = some (0x002, 0x28) ∧
      (after (exec .eventPop State.reset)).port.result.extractLsb' 0 4 ≠ 0 := by decide

theorem witness_EncodedHostWriteDecodes :
    wellFormed (.profileWrite 7 4 9) = true ∧ encodeWrite (.profileWrite 7 4 9) = some (0x07C, 9) ∧
      encodeWrite (.lineEnable true) = some (0x002, 0x01) ∧ encodeWrite (.lineRestart true) = some (0x002, 0x03) ∧
      wellFormed (.registerWrite 0x008 1) = true ∧ wellFormed (.badCommand 0) = true := by decide

theorem witness_WritesThatReachNoBlock :
    State.reset.resetLow = false ∧ assignedCommand 0x00 = false ∧ assignedCommand 0x100 = false ∧
      hasOwnWrite 0x009 = false ∧ (∀ i : Fin 6, (0x009 : Address) ≠ BitVec.ofNat 10 (3 + i.val)) ∧
      hasOwnWrite 0x3FF = false ∧ (∀ i : Fin 6, (0x3FF : Address) ≠ BitVec.ofNat 10 (3 + i.val)) := by decide

theorem witness_ConfigurationWrites :
    State.reset.resetLow = false ∧ State.reset.cycle.run = .stopped ∧ (started 1 State.reset).cycle.run = .started ∧
      (1 ≤ ((0x0401 : Word).extractLsb' 0 3).toNat ∧ 4 ≤ ((0x0401 : Word).extractLsb' 8 8).toNat) ∧
      ¬(1 ≤ ((0x0301 : Word).extractLsb' 0 3).toNat ∧ 4 ≤ ((0x0301 : Word).extractLsb' 8 8).toNat) ∧
      ¬(1 ≤ ((0x0400 : Word).extractLsb' 0 3).toNat ∧ 4 ≤ ((0x0400 : Word).extractLsb' 8 8).toNat) := by decide

theorem witness_EncoderFrameIsJudgedAsSent :
    2 ≤ 2 ∧ 2 ≤ frame20.deadline ∧ 5 ≤ frame20.deadline ∧
      2 ^ 20 - 1 < 2 ^ (frame20.multiturn.toNat + frame20.singleturn.toNat) := by decide

set_option maxRecDepth 10000 in
theorem witness_MessageLengths :
    request5A.op = .command ∧ ({ request5A with op := .read 16 } : Request).op = .read 16 ∧ 1 ≤ 1 ∧ 16 ≤ 16 ∧
      ({ request5A with op := .read 16 } : Request).message.take 4 = [0x1, 0x5, 0xA, 0xF] ∧
      ({ request5A with op := .write 0xFF } : Request).op = .write 0xFF := by decide

theorem witness_ProfileChecksInOrder :
    firstFailingCheck { Profile.default with singleturn := 31 } = some 1 ∧
      ¬expectedCheck { Profile.default with singleturn := 31 } 1 ∧
      firstFailingCheck { Profile.default with velocityWindow := 3 } = some 14 ∧
      ¬expectedCheck { Profile.default with velocityWindow := 3 } 14 ∧
      firstFailingCheck { Profile.default with degradeThreshold := 8 } = some 10 ∧
      ¬expectedCheck { Profile.default with degradeThreshold := 8 } 10 ∧
      firstFailingCheck Profile.default = none := by
  refine ⟨by decide, ?_, by decide, ?_, by decide, ?_, by decide⟩ <;> simp only [expectedCheck] <;> decide

theorem witness_EnableAndRestartEnterProbing :
    (arg0 7).names 7 ∧ (arg0 7).resetLow = false ∧ ((arg0 7).line 7).state = .off ∧
      firstFailingCheck ((arg0 7).line 7).profile = none ∧ (line0 lost).names 0 ∧
      ((line0 lost).line 0).state = .lost := by decide

theorem witness_LineCommandsRefuse :
    (arg0 8).resetLow = false ∧ 8 ≤ ((arg0 8).arg 0).toNat ∧ (line0 ready).names 0 ∧
      ((line0 ready).line 0).state ≠ .off ∧ ((line0 ready).line 0).state ≠ .lost ∧ (arg0 7).names 7 ∧
      ((arg0 7).line 7).state = .off ∧
      ((line0 fun l => { l with profile := { l.profile with rate := 5 } }).line 0).state = .off ∧
      firstFailingCheck ((line0 fun l => { l with profile := { l.profile with rate := 5 } }).line 0).profile
        = some 4 := by decide

theorem witness_DisableDefersOrDeparts :
    (line0 inFrame).resetLow = false ∧ (line0 inFrame).names 0 ∧ ((line0 inFrame).line 0).state ≠ .off ∧
      ((line0 inFrame).line 0).sub = .frame ∧
      queued.names 0 ∧ (queued.line 0).state ≠ .off ∧ (queued.line 0).sub ≠ .frame ∧
      (queued.ctx 2).body = .queued request5A ∧
      ((active (.awaiting 3)).ctx 2).body.activeOn = some 0 ∧ ((active (.awaiting 3)).line 0).sub ≠ .frame := by decide

theorem witness_DisableDefersOrDeparts_laws :
    QueueLaw queued ∧ ActiveLaw queued ∧ QueueLaw (active (.awaiting 3)) ∧ ActiveLaw (active (.awaiting 3)) := by
  decide

theorem witness_ProfileWriteOnlyInOff :
    State.reset.resetLow = false ∧ (State.reset.line 7).state = .off ∧ ((line0 lost).line 0).state ≠ .off := by decide

theorem witness_EndOfRecoveryMakesReady :
    (line0 (inRecovery .run)).resetLow = false ∧ ((line0 (inRecovery .run)).line 0).sub = .recovery ∧
      ((line0 (inRecovery .run)).line 0).link.watch = .observing ∧
      ((line0 (inRecovery .run)).line 0).state ≠ .probing ∧ ((line0 (inRecovery .probing)).line 0).sub = .recovery ∧
      ((line0 (inRecovery .probing)).line 0).state = .probing ∧
      ((line0 fun l => (inFrame l).endFrame .noAck).line 0).sub = .recovery ∧
      ((line0 fun l => (inFrame l).endFrame .noAck).line 0).link.watch ≠ .observing := by decide

/-- A line in RECOVERY with a failure count and a probe frame count. -/
def counted (state : LineState) (failures probeFrames : Nat) : Line → Line := fun l =>
  { inRecovery state l with failures := failures, probeFrames := probeFrames }

theorem witness_RecoveryLimitExpiryCounts :
    (∀ state, (line0 (counted state 0 0)).resetLow = false ∧ ((line0 (counted state 0 0)).line 0).sub = .recovery ∧
      ((line0 (counted state 0 0)).line 0).waited = some 40) ∧
      (State.reset.line 0).profile.recoveryLimit.toNat ≤ 40 ∧ 39 < (State.reset.line 0).profile.recoveryLimit.toNat ∧
      ((line0 (recovering 39 .run)).line 0).waited = some 39 ∧
      ((line0 (counted .probing 0 253)).line 0).probeFrames + 1 < 255 ∧
      255 ≤ ((line0 (counted .probing 0 254)).line 0).probeFrames + 1 ∧
      ((line0 (counted .run 0 0)).line 0).failures + 1 < (State.reset.line 0).profile.degradeThreshold.toNat ∧
      ((line0 (counted .run 1 0)).line 0).failures + 1 = (State.reset.line 0).profile.degradeThreshold.toNat ∧
      ((line0 (counted .degraded 6 0)).line 0).failures + 1 < (State.reset.line 0).profile.lostThreshold.toNat ∧
      ((line0 (counted .degraded 7 0)).line 0).failures + 1 = (State.reset.line 0).profile.lostThreshold.toNat := by
  refine ⟨fun state => ?_, by decide⟩
  cases state <;> decide

/-- The laws behind an entry to LOST are met with a context in progress and one that waits. -/
theorem witness_RecoveryLimitExpiryCounts_laws :
    QueueLaw (line0 (counted .probing 0 254)) ∧ ActiveLaw (line0 (counted .probing 0 254)) ∧
      QueueLaw (queued.updLine 0 (counted .degraded 7 0)) ∧ ActiveLaw (queued.updLine 0 (counted .degraded 7 0)) ∧
      QueueLaw ((active (.awaiting 3)).updLine 0 (counted .degraded 7 0)) ∧
      ActiveLaw ((active (.awaiting 3)).updLine 0 (counted .degraded 7 0)) :=
  ⟨by decide, by decide, by decide, by decide, by decide, by decide⟩

theorem witness_ProbeFrameEndIsCounted :
    ProbeFrame (line0 inProbe) 0 { frame20 with deadline := 31 } ∧
      ((after (exec (.probeFrameEnd 0 [true]) (line0 inProbe))).line 0).state.inService = true := by decide

set_option maxRecDepth 10000 in
theorem witness_GoodRunReachesRun :
    ProbeFrame (line0 inProbe) 0 { frame20 with deadline := 31 } ∧ ((line0 inProbe).line 0).disablePending = false ∧
      1 ≤ ((line0 inProbe).line 0).profile.probeGood.toNat ∧
      judgeFrame { frame20 with deadline := 31 } (goodSamples 0) = .checkOk 3 0 ⟨false, false⟩ .idle ∧
      judgeFrame { frame20 with deadline := 31 } [true] = .noAck ∧
      ((line0 fun l => { inProbe l with goodRun := 7, lastLatency := some 4 }).line 0).goodRun + 1 = 8 ∧
      (State.reset.line 0).profile.probeGood.toNat = 8 ∧
      ((line0 fun l => { inProbe l with probeFrames := 254 }).line 0).probeFrames + 1 = 255 := by decide

/-- A deferred disable of a probing line with a waiting context, whose laws are met. -/
theorem witness_GoodRunReachesRun_deferred :
    let s := queued.updLine 0 fun l => { inProbe l with disablePending := true, probeFrames := 254 }
    ProbeFrame s 0 { frame20 with deadline := 31 } ∧ (s.line 0).disablePending = true ∧ QueueLaw s ∧ ActiveLaw s := by
  decide

set_option maxRecDepth 10000 in
/-- A frame with no result, one with ERR set, a jump and a good one, each of a line that stays in service. -/
theorem witness_RunningFrameEndWritesItsRecord :
    RunningFrame (lastFrame (anchored 4)) 0 frame20 ∧ (judgeFrame frame20 [true]).errWrn = none ∧
      (judgeFrame frame20 (encoderSamples 3 20 0x30 ⟨true, false⟩ .idle)).errWrn = some ⟨true, false⟩ ∧
      expectedStatus (lastFrame (anchored 4)) 0 (.checkOk 3 0x30 ⟨true, false⟩ .idle) = .encError ∧
      expectedStatus (lastFrame (anchored 4)) 0 (.checkOk 3 0x7FFF0 ⟨false, false⟩ .idle) = .jump ∧
      expectedStatus (lastFrame (anchored 5)) 0 (.checkOk 3 0x7FFF0 ⟨false, false⟩ .idle) = .good ∧
      ((after (exec (.runningFrameEnd 0 [true]) (lastFrame (anchored 4)))).line 0).state.inService = true := by decide

/-- Line 0 with its last frame in flight and a context in progress, in a line state with a failure count. -/
def serving (state : LineState) (failures : Nat) (disablePending : Bool) : State :=
  ((lastFrame fun l => { l with state := state, failures := failures, disablePending := disablePending }).setCtx 2
    { generation := 4, body := .active request5A { attempts := 1, framesUsed := 0, phase := .awaiting 3 } })

theorem witness_HealthFollowsTheSampleStatus :
    (∀ pending, RunningFrame (serving .run 1 pending) 0 frame20 ∧ QueueLaw (serving .run 1 pending) ∧
      ActiveLaw (serving .run 1 pending)) ∧
      RunningFrame (serving .degraded 62 false) 0 frame20 ∧
      (healthAfter (serving .run 0 false) 0 .noAck).1 = .run ∧
      (healthAfter (serving .run 1 false) 0 .noAck).1 = .degraded ∧
      (healthAfter (serving .degraded 6 false) 0 .noAck).1 = .degraded ∧
      (healthAfter (serving .degraded 7 false) 0 .noAck) = (.lost, 8, 0) ∧
      ((after (exec (.runningFrameEnd 0 [true]) (serving .degraded 7 false))).line 0).state.inService = false := by
  refine ⟨fun pending => ?_, ?_⟩
  · cases pending <;> decide
  · decide

theorem witness_RawValueDecoding :
    0xD6 < 2 ^ Profile.default.width ∧ ({ Profile.default with reflected := true } : Profile).reflected = true ∧
      Profile.default.reflected = false ∧ ({ Profile.default with invert := true } : Profile).invert = true ∧
      Profile.default.invert = false ∧ 19 + 1 = Profile.default.width ∧ 18 + 1 < Profile.default.width := by decide

theorem witness_SignedDeltaIsTheShortestMovement : 1 ≤ 20 ∧ 0x80030 = 0x30 + 2 ^ (20 - 1) := by decide

set_option maxRecDepth 10000 in
theorem witness_FirstAnchorSetsTheCount :
    JudgedFrame (lastFrame id) 0 (goodSamples 0x30) 3 0x30 ⟨false, false⟩ .idle ∧
      ((lastFrame id).line 0).pos.anchored = false :=
  ⟨⟨⟨frame20, by decide, by decide⟩, rfl⟩, by decide⟩

set_option maxRecDepth 10000 in
theorem witness_GapSampleEndsContinuity :
    JudgedFrame (lastFrame (anchored 5)) 0 (goodSamples 0x30) 3 0x30 ⟨false, false⟩ .idle ∧
      ((lastFrame (anchored 5)).line 0).pos.anchored = true ∧
      ((lastFrame (anchored 5)).line 0).profile.gapLimit.toNat < ((lastFrame (anchored 5)).line 0).pos.age ∧
      ((lastFrame (anchored 255)).line 0).pos.age = 255 ∧
      ((lastFrame (anchored 5)).line 0).pos.continuity = .valid :=
  ⟨⟨⟨frame20, by decide, by decide⟩, rfl⟩, by decide, by decide, by decide, by decide⟩

set_option maxRecDepth 10000 in
theorem witness_JumpLeavesTheAnchorState :
    JudgedFrame (lastFrame (anchored 4)) 0 (goodSamples 0x7FFF0) 3 0x7FFF0 ⟨false, false⟩ .idle ∧
      ((lastFrame (anchored 4)).line 0).pos.anchored = true ∧
      ((lastFrame (anchored 4)).line 0).pos.age ≤ ((lastFrame (anchored 4)).line 0).profile.gapLimit.toNat ∧
      ((lastFrame (anchored 4)).line 0).pos.age ≠ 255 ∧
      ((lastFrame (anchored 4)).line 0).profile.jumpLimit.toNat <
        (deltaOf (lastFrame (anchored 4)) 0 0x7FFF0).natAbs :=
  ⟨⟨⟨frame20, by decide, by decide⟩, rfl⟩, by decide, by decide, by decide, by decide⟩

set_option maxRecDepth 10000 in
theorem witness_AcceptedSampleMovesTheCount :
    JudgedFrame (lastFrame (anchored 4)) 0 (goodSamples 0x3FFF0) 3 0x3FFF0 ⟨false, false⟩ .idle ∧
      ((lastFrame (anchored 4)).line 0).pos.anchored = true ∧
      ((lastFrame (anchored 4)).line 0).pos.age ≤ ((lastFrame (anchored 4)).line 0).profile.gapLimit.toNat ∧
      ((lastFrame (anchored 4)).line 0).pos.age ≠ 255 ∧
      (deltaOf (lastFrame (anchored 4)) 0 0x3FFF0).natAbs = ((lastFrame (anchored 4)).line 0).profile.jumpLimit.toNat :=
  ⟨⟨⟨frame20, by decide, by decide⟩, rfl⟩, by decide, by decide, by decide, by decide⟩

theorem witness_PresetAndContinuityCommands :
    (arg0 8).resetLow = false ∧ 8 ≤ ((arg0 8).arg 0).toNat ∧ (arg0 7).names 7 ∧ ((arg0 7).line 7).state = .off ∧
      ((line0 lost).line 0).state = .lost ∧ (line0 ready).names 0 ∧ ((line0 ready).line 0).state ≠ .off ∧
      ((line0 ready).line 0).state ≠ .lost ∧ ((line0 ready).line 0).pos.preset = none ∧
      ((line0 fun l => { ready l with pos := { l.pos with preset := some 1 } }).line 0).pos.preset ≠ none ∧
      ((line0 fun l => { l with pos := { l.pos with continuity := .uncertain } }).line 0).pos.continuity = .uncertain ∧
      ((line0 ready).line 0).pos.continuity ≠ .uncertain := by decide

/-- The cycle unit STOPPED with a source code and a period. -/
def stopped (code : BitVec 2) (period : BitVec 16) : State :=
  { State.reset with cycle := { CycleUnit.reset with sourceCode := code, period := period } }

theorem witness_CycleStartAndStop :
    (started 1 State.reset).cycle.run = .started ∧ (stopped 3 20).cycle.run = .stopped ∧
      (stopped 3 20).cycle.sourceCode = 3 ∧ (stopped 2 19).cycle.sourceCode ≠ 3 ∧
      (stopped 2 19).cycle.period.toNat < 20 ∧ 20 ≤ (stopped 2 20).cycle.period.toNat ∧
      (stopped 2 20).resetLow = false := by decide

theorem witness_TriggersStartACycle :
    (started 1 (line0 ready)).resetLow = false ∧ (started 1 (line0 ready)).cycle.run = .started ∧
      (started 1 (line0 ready)).cycle.state = .idle ∧ (started 1 (line0 ready)).cycle.sourceCode = 1 ∧
      (after (exec .syncEdge (started 1 (line0 ready)))).cycle.participating ≠ [] ∧
      (timing 1000 (line0 ready)).cycle.timer = .running 1000 ∧
      (timing 1000 (line0 ready)).cycle.period.toNat ≤ 1000 := by
  decide

/-- A participating line with a waiting context, whose queue law is met. -/
theorem witness_TriggersStartACycle_queue :
    QueueLaw queued ∧ (queued.line 0).participates = true ∧ (queued.ctx 2).body.queuedOn = some 0 ∧
      QueueLaw (active .restarting) ∧ ((active .restarting).ctx 2).body.activeOn = some 0 := by decide

theorem witness_OverrunsAreCounted :
    (started 1 (lastFrame id)).resetLow = false ∧ (started 1 (lastFrame id)).cycle.run = .started ∧
      (started 1 (lastFrame id)).cycle.state = .active ∧ (started 1 (lastFrame id)).cycle.sourceCode = 1 ∧
      (timing 1000 (lastFrame id)).cycle.timer = .running 1000 ∧
      (timing 1000 (lastFrame id)).cycle.period.toNat ≤ 1000 ∧
      999 < (timing 999 (lastFrame id)).cycle.period.toNat ∧
      State.reset.cycle.run = .stopped ∧ State.reset.cycle.timer = .stopped ∧ State.reset.cycle.sourceCode ≠ 1 := by
  decide

theorem witness_EmptyCycleCompletesAtOnce :
    (started 1 State.reset).resetLow = false ∧ (started 1 State.reset).cycle.run = .started ∧
      (started 1 State.reset).cycle.state = .idle ∧ (started 1 State.reset).cycle.sourceCode = 1 ∧
      (∀ n, ((started 1 State.reset).line n).participates = false) ∧ (started 1 State.reset).banks.hold = false ∧
      (timing 1000 State.reset).cycle.run = .started ∧ (timing 1000 State.reset).cycle.state = .idle ∧
      (timing 1000 State.reset).cycle.period.toNat ≤ 1000 ∧
      ({ started 1 State.reset with banks := { BankUnit.reset with hold := true } } : State).banks.hold = true := by
  decide

theorem witness_TickAdvancesTheTimestamp :
    State.reset.resetLow = false ∧ State.reset.cycle.timer = .stopped ∧
      (timing 1000 State.reset).cycle.timer = .running 1000 ∧ ((line0 (recovering 40 .run)).line 0).waited = some 40 ∧
      ((line0 fun l => (inFrame l).endFrame .noAck).line 0).link.watch = .disregarding 2 := by decide

theorem witness_LastRecordCompletesTheCycle :
    RunningFrame (lastFrame id) 0 frame20 ∧ (lastFrame id).cycle.state = .active ∧
      0 ∈ (lastFrame id).cycle.outstanding ∧ (lastFrame id).cycle.outstanding.filter (· ≠ 0) = [] ∧
      ([0, 3] : List LineNo).filter (· ≠ 0) ≠ [] ∧ (lastFrame id).banks.hold = false ∧
      QueueLaw (lastFrame id) ∧ ActiveLaw (lastFrame id) := by decide

theorem witness_BankHoldAndRelease :
    State.reset.resetLow = false ∧ State.reset.banks.backStatus ≠ .held ∧
      ({ State.reset with banks := { BankUnit.reset with hold := true, backStatus := .held } } : State).banks.backStatus
        = .held := by decide

theorem witness_FrontBankKeepsItsContents :
    wellFormed .syncEdge = true ∧ isReset .syncEdge = false ∧
      exec .syncEdge (started 1 State.reset) = .next (after (exec .syncEdge (started 1 State.reset))) :=
  ⟨rfl, rfl, rfl⟩

/-- An entry of a GOOD sample. -/
def goodEntry (cycle : BitVec 16) (e : Count48) : SampleEntry :=
  { cycle := cycle, status := .good, extended := some e, errWrn := some ⟨false, false⟩, latency := some 3 }

theorem witness_RingAppendKeepsTheNewestSixteen :
    (List.replicate 15 (goodEntry 0 0)).length < 16 ∧ (List.replicate 16 (goodEntry 0 0)).length = 16 := by decide

/-- The conditions of the velocity are met across the wrap of the cycle number. -/
theorem witness_VelocityNeedsItsFourConditions :
    velocityOf Profile.default .valid [goodEntry 0 0x30, goodEntry 0xFFFF 0x20] = some 0x10 := by decide

/-- SVC_OPEN's arguments on line 0 in RUN. -/
def openArgs (op code third : Word) : State := withArgs #v[0, op, code, third, 0, 0] (line0 ready)

/-- Every context taken. -/
def noneFree : State :=
  { openArgs 3 0x5A 0 with
    service := { ServiceEngine.reset with contexts := Vector.replicate 4 { generation := 0, body := .queued request5A } } }

theorem witness_SvcOpenAllocatesTheLowestFree :
    (openArgs 1 255 16).resetLow = false ∧ (openArgs 1 255 16).names 0 ∧
      ((openArgs 1 255 16).line 0).state.inService = true ∧ RequestFits (openArgs 1 255 16) (.read 16) ∧
      RequestFits (openArgs 2 0 255) (.write 255) ∧ RequestFits (openArgs 3 0 256) .command ∧
      ((openArgs 1 255 16).ctx 0).body = .free ∧ (∀ d, d < 0 → ((openArgs 1 255 16).ctx d).body ≠ .free) := by decide

theorem witness_ServiceCommandsRefuse :
    8 ≤ ((arg0 8).arg 0).toNat ∧ (openArgs 1 256 1).names 0 ∧ 255 < ((openArgs 1 256 1).arg 2).toNat ∧
      (openArgs 4 0 1).arg 1 ≠ 1 ∧ (openArgs 4 0 1).arg 1 ≠ 2 ∧ (openArgs 4 0 1).arg 1 ≠ 3 ∧
      16 < ((openArgs 1 0 17).arg 3).toNat ∧ ((openArgs 1 0 0).arg 3).toNat = 0 ∧
      255 < ((openArgs 2 0 256).arg 3).toNat ∧
      RequestFits (withArgs #v[0, 3, 0x5A, 0, 0, 0] (line0 lost)) .command ∧ ((line0 lost).line 0).state = .lost ∧
      RequestFits noneFree .command ∧ (noneFree.line 0).state ≠ .off ∧ (noneFree.line 0).state ≠ .lost ∧
      (∀ c, (noneFree.ctx c).body ≠ .free) := by decide

theorem witness_ServiceCommandsRefuse_tickets :
    (ticketOf ((ticket24 State.reset).arg 0)).context = 2 ∧ ((ticket24 State.reset).ctx 2).body = .free ∧
      ((ticket24 queued).ctx 2).generation = (ticketOf ((ticket24 queued).arg 0)).generation ∧
      ((ticket24 queued).ctx 2).body = .queued request5A ∧
      ((ticket24 (active .restarting)).ctx 2).body = .active request5A ⟨1, 0, .restarting⟩ ∧
      ((ticket24 (withCtx (.finished request5A 1 (doneResult .ok [] 6)))).ctx 2).body
        = .finished request5A 1 (doneResult .ok [] 6) := by decide

theorem witness_CancelAndRelease :
    queued.resetLow = false ∧ ticketOf ((ticket24 queued).arg 0) = ⟨2, ((ticket24 queued).ctx 2).generation⟩ ∧
      ((ticket24 queued).ctx 2).body = .queued request5A ∧
      ((ticket24 (active (.sending 1))).ctx 2).body = .active request5A ⟨1, 0, .sending 1⟩ ∧
      ((ticket24 (withCtx (.finished request5A 1 (doneResult .ok [] 6)))).ctx 2).body
        = .finished request5A 1 (doneResult .ok [] 6) := by decide

theorem witness_GenerationAdvancesOnlyAtAllocation :
    wellFormed .svcOpen = true ∧ isReset .svcOpen = false ∧ ((openArgs 1 0x40 2).ctx 0).body = .free ∧
      ((after (exec .svcOpen (openArgs 1 0x40 2))).ctx 0).body ≠ .free ∧ (openArgs 1 0x40 2).resetLow = false ∧
      (after (exec .hardwareReset State.reset)).resetLow = true := by decide

theorem witness_RequestSlotChoice :
    ((queued.setAbort 0 true).line 0).abortOwed = true ∧ (queued.line 0).abortOwed = false ∧
      queued.activeCtx 0 = none ∧ (queued.line 0).queue = [2] ∧ (queued.ctx 2).body = .queued request5A ∧
      ((active (.sending 1)).line 0).queue = [] ∧
      ActiveOn (active (.sending 1)) 0 2 request5A ⟨1, 0, .sending 1⟩ ∧
      ActiveOn (active .restarting) 0 2 request5A ⟨1, 0, .restarting⟩ ∧
      ActiveOn (active (.awaiting 0)) 0 2 request5A ⟨1, 0, .awaiting 0⟩ ∧
      ActiveOn (active (.receiving .ok 2 [0])) 0 2 request5A ⟨1, 0, .receiving .ok 2 [0]⟩ := by decide

theorem witness_FailedAttemptRestartsOrFinishes :
    ActiveOn (active (.awaiting 31)) 0 2 request5A ⟨1, 0, .awaiting 31⟩ ∧
      expectedFailure request5A (.awaiting 31) (.checkOk 3 0 ⟨false, false⟩ .idle) = some .noReply ∧
      expectedFailure request5A (.receiving .busy 2 [3]) (.checkOk 3 0 ⟨false, false⟩ (.following 2)) = some .encBusy ∧
      1 < request5A.attemptLimit.toNat ∧
      ({ request5A with attemptLimit := 1 } : Request).attemptLimit.toNat ≤ 1 := by decide

theorem witness_AttemptAdvances :
    ActiveOn (active (.sending 1)) 0 2 request5A ⟨1, 0, .sending 1⟩ ∧
      expectedFailure request5A (.sending 1) (.checkOk 3 0 ⟨false, false⟩ .idle) = none ∧
      (((active (.sending 1)).setSlot 0 (.nibble 2 1 1)).line 0).slot = .nibble 2 1 1 ∧
      expectedFailure request5A (.awaiting 30) (.checkOk 3 0 ⟨false, false⟩ .idle) = none ∧
      expectedFailure request5A (.awaiting 0) (.checkOk 3 0 ⟨false, false⟩ (.first 5)) = none ∧
      expectedFailure request5A (.receiving .ok 6 [0]) (.checkOk 3 0 ⟨false, false⟩ (.following 9)) = none ∧
      expectedFailure request5A (.receiving .ok 2 [0]) (.checkOk 3 0 ⟨false, false⟩ (.following 0)) = none ∧
      expectedFailure request5A .restarting (.checkOk 3 0 ⟨false, false⟩ .abort) = none ∧
      ActiveOn ((active .restarting).setSlot 0 .abort) 0 2 request5A ⟨1, 0, .restarting⟩ := by decide

theorem witness_AbortIsDeliveredByCheckOk :
    queued.activeCtx 0 = none ∧ ActiveOn (active .restarting) 0 2 request5A ⟨1, 0, .restarting⟩ ∧
      (((active .restarting).setSlot 0 .abort).line 0).slot = .abort ∧
      (FrameResult.checkOk 3 0 ⟨false, false⟩ .idle).outcome = .checkOk := by decide

/-- A READ of one byte at the head of line 0's queue. -/
def queuedRead : State :=
  (withCtx (.queued { request5A with op := .read 1 })).updLine 0 fun l => { l with queue := [2] }

theorem witness_ReadCompletesInItsFewestFrames :
    (queuedRead.line 0).abortOwed = false ∧ queuedRead.activeCtx 0 = none ∧ (queuedRead.line 0).queue = 2 :: [] ∧
      (queuedRead.ctx 2).body = .queued { request5A with op := .read 1 } ∧ [0x3C#8].length = 1 := by decide

theorem witness_PostIsAppendedOrLost :
    (fullTo 30).events.entries.length ≤ 30 ∧ 31 ≤ (fullTo 31).events.entries.length ∧
      (fullTo 31).events.entries = List.replicate 30 ⟨.softResetDone, 0⟩ ++ [⟨.softResetDone, 0⟩] ∧
      (⟨.softResetDone, 0⟩ : Event).isLost = false ∧ (⟨.lost 65535, 0⟩ : Event).info = .lost 65535 := by decide

theorem witness_QueueCommandsAndIrq :
    State.reset.resetLow = false ∧ State.reset.events.entries = [] ∧
      (fullTo 1).events.entries = ⟨.softResetDone, 0⟩ :: [] ∧ EventLaw (post .softResetDone (fullTo 31)) ∧
      (post .softResetDone (fullTo 31)).events.entries.length = 32 := by decide

theorem witness_FaultCausesAreRaisedAndCleared :
    FaultCause.reset ∈ State.reset.faults ∧ FaultCause.lineLost 0 ∉ State.reset.faults ∧ State.reset.resetLow = false := by
  decide

theorem witness_ResetsLeaveTheResetState :
    State.reset.resetLow = false ∧ (after (exec .hardwareReset State.reset)).resetLow = true := by decide

/-- A state after a few events: line 0 anchored with its frame the last of an ACTIVE cycle, and a RUNNING_FRAME_END
waiting. -/
def busy : State := { lastFrame (anchored 1) with pending := [.runningFrameEnd 0 (goodSamples 0x30)] }

theorem witness_StepKeepsEventAndFaultLaws : EventLaw busy ∧ FaultLaw busy ∧ step busy = .next (after (step busy)) :=
  ⟨by decide, by decide, rfl⟩

theorem witness_StepKeepsTheLineLaw : LineLaw busy ∧ step busy = .next (after (step busy)) := ⟨by decide, rfl⟩

theorem witness_StepKeepsTheAnchorLaw : LineLaw busy ∧ AnchorLaw busy ∧ step busy = .next (after (step busy)) :=
  ⟨by decide, by decide, rfl⟩

theorem witness_StepKeepsRingAndVelocityLaws : RingLaw busy ∧ VelocityLaw busy ∧ step busy = .next (after (step busy)) :=
  ⟨by decide, by decide, rfl⟩

theorem witness_StepKeepsTheCycleLaw : CycleLaw busy ∧ step busy = .next (after (step busy)) := ⟨by decide, rfl⟩

theorem witness_StepKeepsTheServiceLaws :
    DataLaw busy ∧ QueueLaw busy ∧ ActiveLaw busy ∧ step busy = .next (after (step busy)) :=
  ⟨by decide, by decide, by decide, rfl⟩

end Sys2Proof.Tests
end

section
/-! PROOFS. The messages and the check registers (R11, R18 to R20). -/

namespace Sys2Proof.Machine

/-- One bit into the CRC-4 register is a step with the generator 0x9. -/
theorem crc4Step_eq_crcIn (register : BitVec 4) (bit : Bool) : crc4Step register bit = crcIn 0x9 register bit := by
  simp only [crc4Step, crcIn, BitVec.msb_eq_getLsbD_last]
  split <;> simp

/-- One bit into the CRC-8 register is a step with the generator 0x07. -/
theorem crc8Step_eq_crcIn (register : BitVec 8) (bit : Bool) : crc8Step register bit = crcIn 0x07 register bit := by
  simp only [crc8Step, crcIn, BitVec.msb_eq_getLsbD_last]
  split <;> simp

/-- The check nibble takes one more nibble bit by bit, D3 first. -/
theorem crc4_append (nibbles : List Nibble) (d : Nibble) :
    crc4 (nibbles ++ [d]) =
      crcIn 0x9 (crcIn 0x9 (crcIn 0x9 (crcIn 0x9 (crc4 nibbles) (d.getLsbD 3)) (d.getLsbD 2)) (d.getLsbD 1))
        (d.getLsbD 0) := by
  simp [crc4, nibbleBits, crc4Step_eq_crcIn]

/-- The check field takes one more covered bit. -/
theorem crc8_append (bits : List Bool) (b : Bool) : crc8 (bits ++ [b]) = crcIn 0x07 (crc8 bits) b := by
  simp [crc8, crc8Step_eq_crcIn]

/-- A status nibble stands for the status of its table (R20). -/
theorem encStatusOf_eq_expected : ∀ d : Nibble, encStatusOf d = expectedEncStatus d := by decide

/-- The check nibble stands last in a message, over the nibbles before it (R18). -/
theorem message_getLast? (r : Request) : r.message.getLast? = some (crc4 r.message.dropLast) := by
  simp [Request.message]

/-- The message of a READ (R19). -/
theorem message_of_read {r : Request} {count : Nat} (h : r.op = .read count) :
    r.message =
      [0x1, highNibble r.code, lowNibble r.code, BitVec.ofNat 4 (count - 1),
        crc4 [0x1, highNibble r.code, lowNibble r.code, BitVec.ofNat 4 (count - 1)]] := by
  simp [Request.message, Request.body, h]

/-- The message of a WRITE (R19). -/
theorem message_of_write {r : Request} {data : Byte} (h : r.op = .write data) :
    r.message =
      [0x2, highNibble r.code, lowNibble r.code, highNibble data, lowNibble data,
        crc4 [0x2, highNibble r.code, lowNibble r.code, highNibble data, lowNibble data]] := by
  simp [Request.message, Request.body, h]

/-- The message of a COMMAND (R19). -/
theorem message_of_command {r : Request} (h : r.op = .command) :
    r.message =
      [0x3, highNibble r.code, lowNibble r.code, crc4 [0x3, highNibble r.code, lowNibble r.code]] := by
  simp [Request.message, Request.body, h]

/-- Settles O11: one message for each op, and one register step for each bit. -/
theorem messageLengths : Obligations.MessageLengths := by
  refine ⟨fun r count data status => ⟨fun h _ _ => ?_, fun h => ?_, fun h => ?_, message_getLast? r, ?_⟩,
    encStatusOf_eq_expected, rfl, crc4_append, rfl, crc8_append⟩
  · rw [message_of_read h]; exact ⟨rfl, rfl⟩
  · rw [message_of_write h]; exact ⟨rfl, rfl⟩
  · rw [message_of_command h]; exact ⟨rfl, rfl⟩
  · cases status <;> cases r.op <;> rfl

end Sys2Proof.Machine
end

section
/-! PROOFS. The judgement of a frame (R7 to R12): where START is seen, which outcome the samples give, and that the
samples of an encoder are judged as sent. -/

namespace Sys2Proof.Machine

/-! ## The sample of START (R7, R8) -/

/-- START is seen at the first high sample from 2 to the deadline. -/
theorem startSample_eq_some_iff (samples : List Bool) (deadline l : Nat) :
    startSample samples deadline = some l ↔
      2 ≤ l ∧ l ≤ deadline ∧ sampleAt samples l = true ∧ ∀ k, 2 ≤ k → k < l → sampleAt samples k = false := by
  simp only [startSample, List.find?_range'_eq_some, List.mem_range'_1, Bool.not_eq_true']
  constructor
  · rintro ⟨high, ⟨ge, lt⟩, before⟩
    exact ⟨ge, by omega, high, before⟩
  · rintro ⟨ge, le, high, before⟩
    exact ⟨high, ⟨ge, by omega⟩, before⟩

/-- START is not seen when every sample from 2 to the deadline is low. -/
theorem startSample_eq_none_iff (samples : List Bool) (deadline : Nat) :
    startSample samples deadline = none ↔ ∀ k, 2 ≤ k → k ≤ deadline → sampleAt samples k = false := by
  simp only [startSample, List.find?_eq_none, List.mem_range'_1, Bool.not_eq_true]
  exact ⟨fun h k ge le => h k ⟨ge, by omega⟩, fun h k hk => h k hk.1 (by omega)⟩

/-! ## The outcomes (R12) -/

/-- Whether the eight check bits of a frame with START at sample `l` and `w` raw bits equal its check field (R11). -/
abbrev CheckPasses (samples : List Bool) (l w : Nat) : Prop :=
  natOfBits (samplesFrom samples (l + w + 9) 8) = (crc8 (samplesFrom samples (l + 1) (w + 8))).toNat

/-- With sample 1 high the frame is not acknowledged. -/
theorem judgeFrame_of_high {samples : List Bool} (f : Frame) (h : sampleAt samples 1 = true) :
    judgeFrame f samples = .noAck := by
  simp [judgeFrame, h]

/-- With sample 1 low and no START the frame ends NO_START. -/
theorem judgeFrame_of_no_start {f : Frame} {samples : List Bool} (h : sampleAt samples 1 = false)
    (start : startSample samples f.deadline = none) : judgeFrame f samples = .noStart := by
  simp [judgeFrame, h, start]

/-- With START seen and the check field matched the frame ends CHECK_OK with its fields. -/
theorem judgeFrame_of_check {f : Frame} {samples : List Bool} {l : Nat} (h : sampleAt samples 1 = false)
    (start : startSample samples f.deadline = some l)
    (check : CheckPasses samples l (f.multiturn.toNat + f.singleturn.toNat)) :
    let w := f.multiturn.toNat + f.singleturn.toNat
    judgeFrame f samples =
      .checkOk l (natOfBits (samplesFrom samples (l + 1) w))
        ⟨sampleAt samples (l + w + 1), sampleAt samples (l + w + 2)⟩
        (slotOf (sampleAt samples (l + w + 3)) (sampleAt samples (l + w + 4))
          (BitVec.ofNat 4 (natOfBits (samplesFrom samples (l + w + 5) 4)))) := by
  intro w
  simp only [judgeFrame, h, start]
  exact if_pos check

/-- With START seen and the check field missed the frame ends CHECK_FAIL. -/
theorem judgeFrame_of_check_fail {f : Frame} {samples : List Bool} {l : Nat} (h : sampleAt samples 1 = false)
    (start : startSample samples f.deadline = some l)
    (check : ¬CheckPasses samples l (f.multiturn.toNat + f.singleturn.toNat)) :
    judgeFrame f samples = .checkFail l := by
  simp only [judgeFrame, h, start]
  exact if_neg check

/-- The four outcomes of a frame, each with the samples that it needs. -/
theorem judgeFrame_cases (f : Frame) (samples : List Bool) :
    (sampleAt samples 1 = true ∧ judgeFrame f samples = .noAck) ∨
    (sampleAt samples 1 = false ∧ startSample samples f.deadline = none ∧ judgeFrame f samples = .noStart) ∨
    (∃ l, sampleAt samples 1 = false ∧ startSample samples f.deadline = some l ∧
      ¬CheckPasses samples l (f.multiturn.toNat + f.singleturn.toNat) ∧ judgeFrame f samples = .checkFail l) ∨
    (∃ l raw ew reply, sampleAt samples 1 = false ∧ startSample samples f.deadline = some l ∧
      CheckPasses samples l (f.multiturn.toNat + f.singleturn.toNat) ∧
      judgeFrame f samples = .checkOk l raw ew reply) := by
  cases ack : sampleAt samples 1 with
  | true => exact .inl ⟨rfl, judgeFrame_of_high f ack⟩
  | false =>
    cases start : startSample samples f.deadline with
    | none => exact .inr (.inl ⟨rfl, rfl, judgeFrame_of_no_start ack start⟩)
    | some l =>
      by_cases check : CheckPasses samples l (f.multiturn.toNat + f.singleturn.toNat)
      · exact .inr (.inr (.inr ⟨l, _, _, _, rfl, rfl, check, judgeFrame_of_check ack start check⟩))
      · exact .inr (.inr (.inl ⟨l, rfl, rfl, check, judgeFrame_of_check_fail ack start check⟩))

/-- NO_ACK by sample 1. -/
theorem judgeFrame_eq_noAck_iff (f : Frame) (samples : List Bool) :
    judgeFrame f samples = .noAck ↔ sampleAt samples 1 = true := by
  obtain ⟨ack, h⟩ | ⟨ack, _, h⟩ | ⟨l, ack, _, _, h⟩ | ⟨l, raw, ew, reply, ack, _, _, h⟩ := judgeFrame_cases f samples
  all_goals simp [h, ack]

/-- NO_START by sample 1 and the search for START. -/
theorem judgeFrame_eq_noStart_iff (f : Frame) (samples : List Bool) :
    judgeFrame f samples = .noStart ↔ sampleAt samples 1 = false ∧ startSample samples f.deadline = none := by
  obtain ⟨ack, h⟩ | ⟨ack, start, h⟩ | ⟨l, ack, start, _, h⟩ | ⟨l, raw, ew, reply, ack, start, _, h⟩ :=
    judgeFrame_cases f samples
  · simp [h, ack]
  all_goals simp [h, ack, start]

/-- CHECK_FAIL by sample 1, the search for START and the check field. -/
theorem judgeFrame_eq_checkFail_iff (f : Frame) (samples : List Bool) (l : Nat) :
    judgeFrame f samples = .checkFail l ↔
      sampleAt samples 1 = false ∧ startSample samples f.deadline = some l ∧
        ¬CheckPasses samples l (f.multiturn.toNat + f.singleturn.toNat) := by
  obtain ⟨ack, h⟩ | ⟨ack, start, h⟩ | ⟨l', ack, start, check, h⟩ | ⟨l', raw, ew, reply, ack, start, check, h⟩ :=
    judgeFrame_cases f samples
  · simp [h, ack]
  · simp [h, start]
  · rw [h, start]
    constructor
    · rintro ⟨⟩
      exact ⟨ack, rfl, check⟩
    · rintro ⟨_, ⟨⟩, _⟩
      rfl
  · rw [h, start]
    constructor
    · rintro ⟨⟩
    · rintro ⟨_, ⟨⟩, fails⟩
      exact absurd check fails

/-- Settles O10: the outcomes by `judgeFrame_cases`, with the search for START written out. -/
theorem frameOutcomesFollowTheSamples : Obligations.FrameOutcomesFollowTheSamples := by
  intro f samples
  refine ⟨judgeFrame_eq_noAck_iff f samples, ?_, fun l => ?_⟩
  · rw [judgeFrame_eq_noStart_iff, startSample_eq_none_iff]
  · rw [judgeFrame_eq_checkFail_iff, startSample_eq_some_iff]
    simp only [and_assoc, CheckPasses, ne_eq]

/-! ## The samples of an encoder (R7, R9, R11) -/

/-- The sample right behind the first ones. -/
theorem sampleAt_of_split {samples before rest : List Bool} {b : Bool} {k : Nat} (h : samples = before ++ b :: rest)
    (hk : k = before.length + 1) : sampleAt samples k = b := by
  subst h hk
  simp [sampleAt]

/-- The samples right behind the first ones. -/
theorem samplesFrom_of_split {samples before bits rest : List Bool} {first count : Nat}
    (h : samples = before ++ (bits ++ rest)) (hf : first = before.length + 1) (hc : count = bits.length) :
    samplesFrom samples first count = bits := by
  subst h hf hc
  apply List.ext_getElem
  · simp [samplesFrom]
  · intro j _ hj
    simp [samplesFrom, sampleAt, List.getElem?_append_right, List.getElem?_append_left hj, hj]

@[simp] theorem bitsOfNat_length (width value : Nat) : (bitsOfNat width value).length = width := by
  simp [bitsOfNat]

@[simp] theorem slotBits_length (reply : Slot) : reply.bits.length = 6 := by
  cases reply <;> rfl

/-- One more bit at the low end. -/
theorem natOfBits_append (bits : List Bool) (b : Bool) : natOfBits (bits ++ [b]) = 2 * natOfBits bits + b.toNat := by
  simp [natOfBits]

/-- The bits of a number are those of its half and its lowest bit. -/
theorem bitsOfNat_succ (width value : Nat) :
    bitsOfNat (width + 1) value = bitsOfNat width (value / 2) ++ [value.testBit 0] := by
  simp only [bitsOfNat, List.range_succ, List.map_append, List.map_cons, List.map_nil]
  congr 1
  · refine List.map_congr_left fun j hj => ?_
    have lt := List.mem_range.mp hj
    rw [← Nat.testBit_succ]
    congr 1
    omega
  · simp

/-- A number that fits its width is read back from its bits. -/
theorem natOfBits_bitsOfNat {width value : Nat} (h : value < 2 ^ width) :
    natOfBits (bitsOfNat width value) = value := by
  induction width generalizing value with
  | zero => simp_all [natOfBits, bitsOfNat]
  | succ width ih =>
    have half : value / 2 < 2 ^ width := by omega
    rw [bitsOfNat_succ, natOfBits_append, ih half]
    have := Nat.toNat_testBit value 0
    simp only [pow_zero, Nat.div_one] at this
    omega

/-- The slot that the six bits of a slot make is that slot (R15). -/
theorem slotOf_bits (reply : Slot) :
    ∃ s v d, reply.bits = s :: v :: d ∧ d.length = 4 ∧ slotOf s v (BitVec.ofNat 4 (natOfBits d)) = reply := by
  have nibble : ∀ d : Nibble, BitVec.ofNat 4 (natOfBits (nibbleBits d)) = d := by decide
  cases reply with
  | idle => exact ⟨_, _, _, rfl, rfl, rfl⟩
  | abort => exact ⟨_, _, _, rfl, rfl, rfl⟩
  | first d => exact ⟨_, _, _, rfl, rfl, congrArg Slot.first (nibble d)⟩
  | following d => exact ⟨_, _, _, rfl, rfl, congrArg Slot.following (nibble d)⟩

/-- The samples of an encoder up to START. -/
abbrev upToStart (latency : Nat) : List Bool := List.replicate (latency - 1) false ++ [true]

theorem upToStart_length {latency : Nat} (ge : 2 ≤ latency) : (upToStart latency).length = latency := by
  simp; omega

/-- Before START the samples of an encoder are low. -/
theorem sampleAt_upToStart {latency k : Nat} (rest : List Bool) (one : 1 ≤ k) (lt : k < latency) :
    sampleAt (upToStart latency ++ rest) k = false := by
  have inside : k - 1 < latency - 1 := by omega
  simp [sampleAt, List.getElem?_append_left, inside]

/-- START of an encoder is seen at its latency (R7). -/
theorem startSample_upToStart {latency deadline : Nat} (rest : List Bool) (ge : 2 ≤ latency) (le : latency ≤ deadline) :
    startSample (upToStart latency ++ rest) deadline = some latency := by
  refine (startSample_eq_some_iff _ _ _).mpr ⟨ge, le, ?_, fun k two lt => sampleAt_upToStart rest (by omega) lt⟩
  refine sampleAt_of_split (before := List.replicate (latency - 1) false) (rest := rest) (by simp) ?_
  simp; omega

/-- A frame whose samples lay out the fields behind START, with check bits that match, is CHECK_OK with those fields
(R9, R11). -/
theorem judgeFrame_of_layout {f : Frame} {samples before raw data check : List Bool} {err wrn s v : Bool}
    (layout : samples = before ++ (raw ++ err :: wrn :: s :: v :: (data ++ check)))
    (width : raw.length = f.multiturn.toNat + f.singleturn.toNat) (four : data.length = 4) (eight : check.length = 8)
    (ack : sampleAt samples 1 = false) (start : startSample samples f.deadline = some before.length)
    (matched : natOfBits check = (crc8 (raw ++ err :: wrn :: s :: v :: data)).toNat) :
    judgeFrame f samples =
      .checkOk before.length (natOfBits raw) ⟨err, wrn⟩ (slotOf s v (BitVec.ofNat 4 (natOfBits data))) := by
  have rawField : samplesFrom samples (before.length + 1) raw.length = raw := samplesFrom_of_split layout rfl rfl
  have errField : sampleAt samples (before.length + raw.length + 1) = err :=
    sampleAt_of_split (before := before ++ raw) (rest := wrn :: s :: v :: (data ++ check)) (by simp [layout]) (by simp)
  have wrnField : sampleAt samples (before.length + raw.length + 2) = wrn :=
    sampleAt_of_split (before := before ++ raw ++ [err]) (rest := s :: v :: (data ++ check))
      (by simp [layout]) (by simp; omega)
  have sField : sampleAt samples (before.length + raw.length + 3) = s :=
    sampleAt_of_split (before := before ++ raw ++ [err, wrn]) (rest := v :: (data ++ check))
      (by simp [layout]) (by simp; omega)
  have vField : sampleAt samples (before.length + raw.length + 4) = v :=
    sampleAt_of_split (before := before ++ raw ++ [err, wrn, s]) (rest := data ++ check)
      (by simp [layout]) (by simp; omega)
  have dataField : samplesFrom samples (before.length + raw.length + 5) 4 = data :=
    samplesFrom_of_split (before := before ++ raw ++ [err, wrn, s, v]) (rest := check)
      (by simp [layout]) (by simp; omega) four.symm
  have checkField : samplesFrom samples (before.length + raw.length + 9) 8 = check :=
    samplesFrom_of_split (before := before ++ raw ++ [err, wrn, s, v] ++ data) (rest := [])
      (by simp [layout]) (by simp; omega) eight.symm
  have covered : samplesFrom samples (before.length + 1) (raw.length + 8) = raw ++ err :: wrn :: s :: v :: data :=
    samplesFrom_of_split (before := before) (rest := check) (by simp [layout]) rfl (by simp; omega)
  have passes : CheckPasses samples before.length (f.multiturn.toNat + f.singleturn.toNat) := by
    rw [← width, CheckPasses, checkField, covered, matched]
  rw [judgeFrame_of_check ack start passes, ← width, rawField, errField, wrnField, sField, vField, dataField]

/-- Settles O9: an encoder lays the fields out behind START, and its raw value, its slot and its check field are read
back from their bits. -/
theorem encoderFrameIsJudgedAsSent : Obligations.EncoderFrameIsJudgedAsSent := by
  intro f latency raw ew reply ge le fits
  obtain ⟨s, v, data, bits, four, slot⟩ := slotOf_bits reply
  set w := f.multiturn.toNat + f.singleturn.toNat
  have covers : coveredBits w raw ew reply = bitsOfNat w raw ++ ew.err :: ew.wrn :: s :: v :: data := by
    simp [coveredBits, bits]
  have sent : encoderSamples latency w raw ew reply =
      upToStart latency ++ (bitsOfNat w raw ++ ew.err :: ew.wrn :: s :: v ::
        (data ++ bitsOfNat 8 (crc8 (coveredBits w raw ew reply)).toNat)) := by
    simp [encoderSamples, covers]
  have upTo : (upToStart latency).length = latency := upToStart_length ge
  have judged := judgeFrame_of_layout (f := f) sent (by simp [w]) four (by simp)
    (by rw [sent]; exact sampleAt_upToStart _ le_rfl ge)
    (by rw [sent, upTo]; exact startSample_upToStart _ ge le)
    (by rw [natOfBits_bitsOfNat (BitVec.isLt _), covers])
  rw [judged, upTo, natOfBits_bitsOfNat fits, slot]

end Sys2Proof.Machine
end

section
/-! PROOFS. The recovery and the tick: what the end of recovery leaves of a line, and what a µs leaves of the part. -/

namespace Sys2Proof.Machine

/-! ## The end of recovery (R13, R24, R33) -/

/-- Out of PROBING a line that becomes ready waits for a cycle. -/
theorem becomeReady_of_not_probing {l : Line} (h : l.state ≠ .probing) :
    l.becomeReady = { l with sub := .ready, waited := none, link := { l.link with watch := .none, da := true } } := by
  simp [Line.becomeReady, h]

/-- In PROBING a line that becomes ready asks for its next probe frame. -/
theorem becomeReady_of_probing {l : Line} (h : l.state = .probing) :
    l.becomeReady =
      { l with
        sub := .frame, waited := none
        link := { frame := some (expectedProbeFrame l), watch := .none, da := true } } := by
  simp [Line.becomeReady, h, Line.startProbe, Line.startFrame, expectedProbeFrame, Config.lastStartSample]

/-- Settles O18: the dispatch runs `becomeReady` while the port observes DA, and is untimely otherwise. -/
theorem endOfRecoveryMakesReady : Obligations.EndOfRecoveryMakesReady := by
  intro s n high sub
  refine ⟨fun watch state => ?_, fun watch state => ?_, fun watch => ?_⟩
  · rw [exec_endOfRecovery_of_observing high sub watch, State.updLine, becomeReady_of_not_probing state]
  · rw [exec_endOfRecovery_of_observing high sub watch, State.updLine, becomeReady_of_probing state]
  · exact exec_of_untimely (by simp [timely, Line.observesDa, watch])

/-! ## The tick (R13, R39, R74, R85) -/

/-- A tick with RESET high runs `timestampTick`. -/
theorem exec_timestampCounterTick_of_high {s : State} (high : s.resetLow = false) :
    exec .timestampCounterTick s = .next (timestampTick s) :=
  whileRunning_of_high high timestampTick

/-- A tick touches the cycle unit and the lines. -/
theorem timestampTick_frame (s : State) :
    timestampTick s =
      { s with
        cycle := { s.cycle with timestamp := s.cycle.timestamp + 1, timer := s.cycle.timer.tick }
        lines := (timestampTick s).lines } := rfl

@[simp] theorem timestampTick_cycle (s : State) :
    (timestampTick s).cycle =
      { s.cycle with timestamp := s.cycle.timestamp + 1, timer := s.cycle.timer.tick } := rfl

@[simp] theorem timestampTick_line (s : State) (n : LineNo) : (timestampTick s).line n = (s.line n).tick :=
  updLines_line _ _ n

/-- Settles O35: the tick's frame, and the counts of the timer and of each line by their own `tick`. -/
theorem tickAdvancesTheTimestamp : Obligations.TickAdvancesTheTimestamp := by
  intro s high
  refine ⟨timestampTick s, exec_timestampCounterTick_of_high high, rfl, timestampTick_frame s,
    fun e h => ?_, fun h => ?_, fun n => ?_⟩
  · simp [h, PeriodTimer.tick]
  · simp [h, PeriodTimer.tick]
  · rw [timestampTick_line]
    refine ⟨rfl, fun h => ?_, fun w h => ?_, fun h => ?_, fun h => ?_, fun h => ?_, fun h => ?_⟩
    all_goals simp [Line.tick, Watch.tick, h]

end Sys2Proof.Machine
end

section
/-! PROOFS. The service engine at a frame end (R142 to R151): what the delivery leaves, which attempts go on, and what
each of them does to its context. -/

namespace Sys2Proof.Machine

/-! ## Bodies written one after the other -/

/-- Of two bodies written to one context the later one stays. -/
@[simp] theorem setBody_setBody (s : State) (c : CtxNo) (b b' : ContextBody) :
    (s.setBody c b).setBody c b' = s.setBody c b' := by
  have kept := setBody_generation s c c b
  simp only [State.setBody] at kept ⊢
  rw [kept]
  simp [State.setCtx]

/-- A context finished over a body just written. -/
theorem finishCtx_setBody (c : CtxNo) (r : Request) (a : Nat) (x : Result) (s : State) (b : ContextBody) :
    finishCtx c r a x (s.setBody c b) =
      post (.svcFinished r.line c (s.ctx c).generation x.kind x.reason) (s.setBody c (.finished r a x)) := by
  simp [finishCtx]

/-- A line replaced by itself leaves the state as it was. -/
@[simp] theorem setLine_line_self (s : State) (n : LineNo) : s.setLine n (s.line n) = s := by
  simp [State.setLine, State.line]

@[simp] theorem setSlot_line_same (s : State) (n : LineNo) (x : SlotInFlight) :
    (s.setSlot n x).line n = { s.line n with slot := x } :=
  updLine_line_same s n _

/-! ## The delivery of an ABORT (R143) -/

/-- Whether a line still owes its ABORT after a frame with an outcome: one carried by a CHECK_OK frame is delivered. -/
def owedAfter (l : Line) (outcome : Outcome) : Bool :=
  if l.slot = .abort ∧ outcome = .checkOk then false else l.abortOwed

/-- The delivery touches the abort-owed flag of its line only. -/
theorem judgeDelivery_eq (n : LineNo) (o : Outcome) (s : State) :
    judgeDelivery n o s = s.setLine n { s.line n with abortOwed := owedAfter (s.line n) o } := by
  unfold judgeDelivery owedAfter
  by_cases h : (s.line n).slot = .abort ∧ o = .checkOk
  · simp [h.1, h.2, State.setAbort, State.updLine]
  · rw [if_neg (by simpa using h), if_neg h, setLine_line_self]

@[simp] theorem judgeDelivery_line (n : LineNo) (o : Outcome) (s : State) :
    (judgeDelivery n o s).line n = { s.line n with abortOwed := owedAfter (s.line n) o } := by
  simp [judgeDelivery_eq]

@[simp] theorem judgeDelivery_ctx (n : LineNo) (o : Outcome) (s : State) (c : CtxNo) :
    (judgeDelivery n o s).ctx c = s.ctx c := by
  simp [judgeDelivery_eq]

@[simp] theorem judgeDelivery_events (n : LineNo) (o : Outcome) (s : State) :
    (judgeDelivery n o s).events = s.events := by
  simp [judgeDelivery_eq]

@[simp] theorem judgeDelivery_cycle (n : LineNo) (o : Outcome) (s : State) :
    (judgeDelivery n o s).cycle = s.cycle := by
  simp [judgeDelivery_eq]

@[simp] theorem judgeDelivery_activeCtx (n m : LineNo) (o : Outcome) (s : State) :
    (judgeDelivery n o s).activeCtx m = s.activeCtx m :=
  activeCtx_congr (by simp [judgeDelivery_eq]) m

/-! ## The work at a frame end (R142) -/

/-- With no ACTIVE context the delivery is all. -/
theorem serviceFrameEnd_of_none {s : State} {n : LineNo} (result : FrameResult) (h : s.activeCtx n = none) :
    serviceFrameEnd n result s = (judgeDelivery n result.outcome s).setSlot n .none := by
  simp [serviceFrameEnd, h]

/-- With an ACTIVE context the delivery is judged, and then the frame ends for that context. -/
theorem serviceFrameEnd_of_active {s : State} {n : LineNo} {c : CtxNo} {r : Request} {p : Progress}
    (result : FrameResult) (h : ActiveOn s n c r p) :
    serviceFrameEnd n result s =
      (ctxFrameEnd c r p (s.line n).slot result (judgeDelivery n result.outcome s)).setSlot n .none := by
  obtain ⟨found, body, -⟩ := h
  simp [serviceFrameEnd, found, body]

/-- The progress of a context with this frame counted. -/
abbrev Progress.counted (p : Progress) : Progress := { p with framesUsed := framesCounted p }

@[simp] theorem reply_checkOk (l raw : Nat) (ew : ErrWrn) (reply : Slot) :
    (FrameResult.checkOk l raw ew reply).reply = some reply := rfl

/-- A CHECK_OK frame is counted and advances its context. -/
theorem ctxFrameEnd_of_checkOk (c : CtxNo) (r : Request) (p : Progress) (x : SlotInFlight) (l raw : Nat) (ew : ErrWrn)
    (reply : Slot) (s : State) :
    ctxFrameEnd c r p x (.checkOk l raw ew reply) s =
      advanceCtx c r p.counted x reply (s.setBody c (.active r p.counted)) := rfl

/-! ## The attempts that go on (R145 to R149) -/

/-- What a phase and the reply slot of a CHECK_OK frame are where the attempt does not fail. -/
inductive GoesOn (r : Request) : Phase → Slot → Prop where
  | restarting (reply : Slot) : GoesOn r .restarting reply
  | sending (i : Nat) {reply : Slot} : reply ≠ .abort → GoesOn r (.sending i) reply
  | waiting {w : Nat} : w + 1 ≠ r.replyWindow.toNat → GoesOn r (.awaiting w) .idle
  | status (w : Nat) {d : Nibble} {status : EncStatus} : encStatusOf d = some status → GoesOn r (.awaiting w) (.first d)
  | nibble (status : EncStatus) {expected : Nat} {nibbles : List Nibble} (d : Nibble) :
      nibbles.length + 1 ≠ expected → GoesOn r (.receiving status expected nibbles) (.following d)
  | accepted {status : EncStatus} {expected : Nat} {nibbles : List Nibble} :
      nibbles.length + 1 = expected → status ≠ .busy → status ≠ .requestCheck →
      GoesOn r (.receiving status expected nibbles) (.following (crc4 nibbles))

/-- A status nibble below 6 stands for a status (R20). -/
theorem encStatusOf_isSome_of_lt {d : Nibble} (h : ¬6 ≤ d.toNat) : ∃ status, encStatusOf d = some status := by
  have table : ∀ d : Nibble, ¬6 ≤ d.toNat → (encStatusOf d).isSome = true := by decide
  exact Option.isSome_iff_exists.mp (table d h)

/-- A status nibble of 6 or more stands for none (R20). -/
theorem encStatusOf_eq_none_of_le {d : Nibble} (h : 6 ≤ d.toNat) : encStatusOf d = none := by
  have table : ∀ d : Nibble, 6 ≤ d.toNat → encStatusOf d = none := by decide
  exact table d h

/-- An attempt with no failure reason at a CHECK_OK frame goes on. -/
theorem goesOn_of_no_failure {r : Request} {phase : Phase} {l raw : Nat} {ew : ErrWrn} {reply : Slot}
    (h : expectedFailure r phase (.checkOk l raw ew reply) = none) : GoesOn r phase reply := by
  cases phase with
  | restarting => exact .restarting reply
  | sending i => exact .sending i (by rintro rfl; simp [expectedFailure] at h)
  | awaiting w =>
    cases reply with
    | idle => exact .waiting (by simpa [expectedFailure] using h)
    | first d =>
      obtain ⟨status, hs⟩ := encStatusOf_isSome_of_lt (d := d) (by simpa [expectedFailure] using h)
      exact .status w hs
    | abort => simp [expectedFailure] at h
    | following d => simp [expectedFailure] at h
  | receiving status expected nibbles =>
    cases reply with
    | following d =>
      by_cases whole : nibbles.length + 1 = expected
      · simp only [expectedFailure, FrameResult.reply, whole, if_true] at h
        by_cases matched : d = crc4 nibbles
        · subst matched
          refine .accepted whole ?_ ?_ <;> rintro rfl <;> simp at h
        · simp [matched] at h
      · exact .nibble status d whole
    | idle => simp [expectedFailure] at h
    | first d => simp [expectedFailure] at h
    | abort => simp [expectedFailure] at h

section Advance

variable {c : CtxNo} {r : Request} {p : Progress} (x : SlotInFlight) (s : State)

/-- A RESTARTING context waits for its next frame start. -/
theorem advanceCtx_restarting (reply : Slot) (h : p.phase = .restarting) : advanceCtx c r p x reply s = s := by
  unfold advanceCtx; simp [h]

/-- In SENDING a nibble of the context delivered makes the next one due, or the reply after the last. -/
theorem advanceCtx_sending {i : Nat} {reply : Slot} (h : p.phase = .sending i) (hr : reply ≠ .abort) :
    advanceCtx c r p x reply s =
      if x.ofContext c then
        s.setBody c (.active r { p with phase := if i + 1 = r.length then .awaiting 0 else .sending (i + 1) })
      else s := by
  unfold advanceCtx; cases reply <;> simp_all

/-- In AWAITING an idle slot inside the reply window is counted. -/
theorem advanceCtx_waiting {w : Nat} (h : p.phase = .awaiting w) (hw : w + 1 ≠ r.replyWindow.toNat) :
    advanceCtx c r p x .idle s = s.setBody c (.active r { p with phase := .awaiting (w + 1) }) := by
  unfold advanceCtx; simp [h, hw]

/-- In AWAITING a status nibble begins the reply. -/
theorem advanceCtx_status {w : Nat} {d : Nibble} {status : EncStatus} (h : p.phase = .awaiting w)
    (hd : encStatusOf d = some status) :
    advanceCtx c r p x (.first d) s =
      s.setBody c (.active r { p with phase := .receiving status (expectedReply status r.op) [d] }) := by
  unfold advanceCtx; simp [h, hd]

/-- In RECEIVING a following nibble that leaves the reply incomplete is kept. -/
theorem advanceCtx_nibble {status : EncStatus} {expected : Nat} {nibbles : List Nibble} (d : Nibble)
    (h : p.phase = .receiving status expected nibbles) (hl : nibbles.length + 1 ≠ expected) :
    advanceCtx c r p x (.following d) s =
      s.setBody c (.active r { p with phase := .receiving status expected (nibbles ++ [d]) }) := by
  unfold advanceCtx; simp [h, hl]

/-- The bytes that a whole reply brings: those of an OK reply to a READ (R20, R149). -/
def replyData (status : EncStatus) (op : SvcOp) (nibbles : List Nibble) : List Byte :=
  match status, op with
  | .ok, .read _ => pairBytes nibbles.tail
  | _, _ => []

/-- In RECEIVING the check nibble of an accepted reply finishes the context DONE. -/
theorem advanceCtx_accepted {status : EncStatus} {expected : Nat} {nibbles : List Nibble}
    (h : p.phase = .receiving status expected nibbles) (hl : nibbles.length + 1 = expected) (busy : status ≠ .busy)
    (check : status ≠ .requestCheck) :
    advanceCtx c r p x (.following (crc4 nibbles)) s =
      finishCtx c r p.attempts (doneResult status (replyData status r.op nibbles) p.framesUsed) s := by
  have whole : advanceCtx c r p x (.following (crc4 nibbles)) s = acceptReply c r p status nibbles s := by
    unfold advanceCtx; simp [h, hl]
  rw [whole]
  cases status with
  | ok => cases hop : r.op <;> simp [acceptReply, replyData, hop]
  | busy => exact absurd rfl busy
  | requestCheck => exact absurd rfl check
  | badAddress => rfl
  | readOnly => rfl
  | unknownOp => rfl

end Advance

/-! ## The attempts that fail (R144 to R149) -/

/-- An attempt with a failure reason at a CHECK_OK frame fails with it. -/
theorem advanceCtx_of_failure (c : CtxNo) (r : Request) (p : Progress) (x : SlotInFlight) (s : State) {l raw : Nat}
    {ew : ErrWrn} {reply : Slot} {reason : FailureReason}
    (h : expectedFailure r p.phase (.checkOk l raw ew reply) = some reason) :
    advanceCtx c r p x reply s = failAttempt c r p reason (expectedFailureStatus reason) s := by
  unfold advanceCtx
  cases hp : p.phase with
  | restarting => simp [hp, expectedFailure] at h
  | sending i =>
    cases reply <;> simp [hp, expectedFailure] at h
    subst h; rfl
  | awaiting w =>
    cases reply <;> simp [hp, expectedFailure] at h
    case idle =>
      obtain ⟨window, rfl⟩ := h
      simp [window, expectedFailureStatus]
    case first d =>
      obtain ⟨unassigned, rfl⟩ := h
      simp [encStatusOf_eq_none_of_le unassigned, expectedFailureStatus]
    all_goals subst h; rfl
  | receiving status expected nibbles =>
    cases reply <;> simp only [hp, expectedFailure, reply_checkOk] at h
    case following d =>
      split at h
      · next whole =>
        split at h
        · next mismatch => cases h; simp [whole, mismatch, expectedFailureStatus]
        · next matched =>
          rw [not_not] at matched
          subst matched
          cases status <;> simp at h
          all_goals subst h; simp [whole, acceptReply, expectedFailureStatus]
      · cases h
    all_goals cases h; rfl

/-- A frame that is not CHECK_OK is only counted while its context is RESTARTING (R144). -/
theorem ctxFrameEnd_of_restarting (c : CtxNo) (r : Request) {p : Progress} (x : SlotInFlight) (s : State)
    {result : FrameResult} (lost : result.reply = none) (h : p.phase = .restarting) :
    ctxFrameEnd c r p x result s = s.setBody c (.active r p.counted) := by
  obtain ⟨attempts, frames, phase⟩ := p
  subst h
  simp only [ctxFrameEnd, lost]
  rfl

/-- A frame that is not CHECK_OK fails the attempt in any other phase with LINK (R144). -/
theorem ctxFrameEnd_of_link (c : CtxNo) (r : Request) {p : Progress} (x : SlotInFlight) (s : State)
    {result : FrameResult} (lost : result.reply = none) (h : p.phase ≠ .restarting) :
    ctxFrameEnd c r p x result s = failAttempt c r p.counted .link none (s.setBody c (.active r p.counted)) := by
  obtain ⟨attempts, frames, phase⟩ := p
  simp only [ctxFrameEnd, lost]
  cases phase with
  | restarting => exact absurd rfl h
  | sending i => rfl
  | awaiting w => rfl
  | receiving status expected nibbles => rfl

/-- The failure reason at a frame that is not CHECK_OK: LINK, but in RESTARTING. -/
theorem expectedFailure_of_no_reply (r : Request) (phase : Phase) {result : FrameResult} (lost : result.reply = none) :
    expectedFailure r phase result = if phase = .restarting then none else some .link := by
  cases phase <;> simp [expectedFailure, lost]

/-- A frame end with a failure reason counts the frame and fails the attempt. -/
theorem ctxFrameEnd_of_failure (c : CtxNo) (r : Request) (p : Progress) (x : SlotInFlight) (s : State)
    {result : FrameResult} {reason : FailureReason} (h : expectedFailure r p.phase result = some reason) :
    ctxFrameEnd c r p x result s =
      failAttempt c r p.counted reason (expectedFailureStatus reason) (s.setBody c (.active r p.counted)) := by
  cases lost : result.reply with
  | none =>
    rw [expectedFailure_of_no_reply r p.phase lost] at h
    split at h
    · cases h
    · next running => cases h; exact ctxFrameEnd_of_link c r x s lost running
  | some reply =>
    cases result <;> simp only [FrameResult.reply, reduceCtorEq] at lost
    exact advanceCtx_of_failure c r p.counted x _ h

/-! ## The effect of a frame end on its context -/

/-- What a frame end does to its ACTIVE context, whatever else the state holds: the context goes on or finishes, and its
line may owe an ABORT. -/
inductive CtxEffect where
  | goesOn (owes : Bool) (progress : Progress)
  | finishes (owes : Bool) (attempts : Nat) (result : Result)

/-- Whether the line owes an ABORT by an effect. -/
def CtxEffect.owes : CtxEffect → Bool
  | .goesOn owes _ => owes
  | .finishes owes _ _ => owes

/-- The body that an effect gives the context of a request. -/
def CtxEffect.body (r : Request) : CtxEffect → ContextBody
  | .goesOn _ p => .active r p
  | .finishes _ attempts result => .finished r attempts result

/-- A state whose line `n` owes an ABORT by an effect, or is as it was. -/
def State.owing (s : State) (n : LineNo) (owes : Bool) : State := if owes then s.setAbort n true else s

@[simp] theorem owing_ctx (s : State) (n : LineNo) (owes : Bool) (d : CtxNo) : (s.owing n owes).ctx d = s.ctx d := by
  cases owes <;> rfl

@[simp] theorem owing_events (s : State) (n : LineNo) (owes : Bool) : (s.owing n owes).events = s.events := by
  cases owes <;> rfl

@[simp] theorem owing_line (s : State) (n : LineNo) (owes : Bool) :
    (s.owing n owes).line n = { s.line n with abortOwed := owes || (s.line n).abortOwed } := by
  cases owes <;> simp [State.owing, State.setAbort]

/-- An ABORT owed and a body written stand in either order. -/
theorem setBody_owing (s : State) (c : CtxNo) (b : ContextBody) (n : LineNo) (owes : Bool) :
    (s.setBody c b).owing n owes = (s.owing n owes).setBody c b := by
  cases owes <;> rfl

/-- A state with the effect on context `c` of request `r`. -/
def CtxEffect.apply (c : CtxNo) (r : Request) (e : CtxEffect) (s : State) : State :=
  match e with
  | .goesOn owes p => (s.owing r.line owes).setBody c (.active r p)
  | .finishes owes attempts result => finishCtx c r attempts result (s.owing r.line owes)

theorem CtxEffect.apply_ctx (c d : CtxNo) (r : Request) (e : CtxEffect) (s : State) :
    (e.apply c r s).ctx d = if d = c then { generation := (s.ctx c).generation, body := e.body r } else s.ctx d := by
  cases e <;> simp [apply, finishCtx, setBody_ctx, body]

theorem CtxEffect.apply_line (c : CtxNo) (r : Request) (e : CtxEffect) (s : State) :
    (e.apply c r s).line r.line = { s.line r.line with abortOwed := e.owes || (s.line r.line).abortOwed } := by
  cases e <;> simp [apply, finishCtx, CtxEffect.owes]

/-- An effect posts nothing but a finish. -/
theorem CtxEffect.apply_events (c : CtxNo) (r : Request) (e : CtxEffect) (s : State)
    (h : ∀ a x, e.body r ≠ .finished r a x) : (e.apply c r s).events = s.events := by
  cases e with
  | goesOn owes p => simp [apply]
  | finishes owes a x => exact absurd rfl (h a x)

/-- A body written before an effect is overwritten. -/
theorem CtxEffect.apply_setBody (c : CtxNo) (r : Request) (e : CtxEffect) (s : State) (b : ContextBody) :
    e.apply c r (s.setBody c b) = e.apply c r s := by
  cases e <;> simp [apply, setBody_owing, finishCtx]

/-- A failed attempt has one effect in every state (R150). -/
theorem failAttempt_effect (c : CtxNo) (r : Request) (p : Progress) (reason : FailureReason)
    (status : Option EncStatus) :
    ∃ e : CtxEffect, ∀ s, failAttempt c r p reason status s = e.apply c r s := by
  by_cases left : p.attempts < r.attemptLimit.toNat
  · exact ⟨.goesOn reason.owesAbort { p with phase := .restarting }, fun s => if_pos left⟩
  · exact ⟨.finishes reason.owesAbort p.attempts (failedResult reason status p.framesUsed), fun s => if_neg left⟩

/-- An attempt that goes on has one effect in every state, and owes no ABORT by it. -/
theorem advanceCtx_effect_of_goesOn (c : CtxNo) (r : Request) (p : Progress) (x : SlotInFlight) {reply : Slot}
    (h : GoesOn r p.phase reply) :
    ∃ e : CtxEffect, e.owes = false ∧
      ∀ s, advanceCtx c r p x reply (s.setBody c (.active r p)) = e.apply c r s := by
  generalize hp : p.phase = phase at h
  cases h with
  | restarting => exact ⟨.goesOn false p, rfl, fun s => advanceCtx_restarting x _ reply hp⟩
  | sending i hr =>
    by_cases own : x.ofContext c
    · exact ⟨.goesOn false _, rfl, fun s => by rw [advanceCtx_sending x _ hp hr, if_pos own, setBody_setBody]; rfl⟩
    · exact ⟨.goesOn false p, rfl, fun s => by rw [advanceCtx_sending x _ hp hr, if_neg own]; rfl⟩
  | waiting hw => exact ⟨.goesOn false _, rfl, fun s => by rw [advanceCtx_waiting x _ hp hw, setBody_setBody]; rfl⟩
  | status w hd => exact ⟨.goesOn false _, rfl, fun s => by rw [advanceCtx_status x _ hp hd, setBody_setBody]; rfl⟩
  | nibble status d hl =>
    exact ⟨.goesOn false _, rfl, fun s => by rw [advanceCtx_nibble x _ d hp hl, setBody_setBody]; rfl⟩
  | accepted hl busy check =>
    exact ⟨.finishes false _ _, rfl, fun s => by
      rw [advanceCtx_accepted x _ hp hl busy check, finishCtx_setBody]; rfl⟩

/-- A frame end has one effect on its ACTIVE context in every state: it reads nothing but the context's request and
progress, the slot that the frame carried, and its result. -/
theorem ctxFrameEnd_effect (c : CtxNo) (r : Request) (p : Progress) (x : SlotInFlight) (result : FrameResult) :
    ∃ e : CtxEffect, ∀ s, ctxFrameEnd c r p x result s = e.apply c r s := by
  cases h : expectedFailure r p.phase result with
  | some reason =>
    obtain ⟨e, he⟩ := failAttempt_effect c r p.counted reason (expectedFailureStatus reason)
    exact ⟨e, fun s => by rw [ctxFrameEnd_of_failure c r p x s h, he, e.apply_setBody]⟩
  | none =>
    cases lost : result.reply with
    | none =>
      have restarting : p.phase = .restarting := by
        by_contra other
        simp [expectedFailure_of_no_reply r p.phase lost, other] at h
      exact ⟨.goesOn false p.counted, fun s => ctxFrameEnd_of_restarting c r x s lost restarting⟩
    | some reply =>
      cases result <;> simp only [FrameResult.reply, reduceCtorEq] at lost
      obtain ⟨e, -, he⟩ := advanceCtx_effect_of_goesOn c r p.counted x (goesOn_of_no_failure h)
      exact ⟨e, he⟩

/-! ## An attempt that goes on -/

section CheckOk

variable {s : State} {n : LineNo} {c : CtxNo} {r : Request} {p : Progress} {l raw : Nat} {ew : ErrWrn} {reply : Slot}

/-- A CHECK_OK frame end of a line with an ACTIVE context, through `advanceCtx`. -/
theorem serviceFrameEnd_of_checkOk (h : ActiveOn s n c r p) :
    serviceFrameEnd n (.checkOk l raw ew reply) s =
      (advanceCtx c r p.counted (s.line n).slot reply
        ((judgeDelivery n .checkOk s).setBody c (.active r p.counted))).setSlot n .none :=
by
  rw [serviceFrameEnd_of_active _ h, ctxFrameEnd_of_checkOk]
  rfl

/-- A frame end at which the attempt goes on: the line's delivery judged and its slot cleared, no other line and no
other context changed, and nothing posted unless the context finishes. -/
theorem serviceFrameEnd_of_goesOn (h : ActiveOn s n c r p) (go : GoesOn r p.phase reply) :
    let t := serviceFrameEnd n (.checkOk l raw ew reply) s
    t.line n = { s.line n with
      slot := .none, abortOwed := if (s.line n).slot = .abort then false else (s.line n).abortOwed } ∧
    (∀ m, m ≠ n → t.line m = s.line m) ∧ (∀ d, d ≠ c → t.ctx d = s.ctx d) ∧
    ((∀ r' a x, (t.ctx c).body ≠ .finished r' a x) → t.events = s.events) := by
  intro t
  have ⟨_, _, onLine⟩ := h
  obtain ⟨e, unowed, he⟩ := advanceCtx_effect_of_goesOn c r p.counted (s.line n).slot go
  have ht : t = (e.apply c r (judgeDelivery n .checkOk s)).setSlot n .none := by
    rw [← he]; exact serviceFrameEnd_of_checkOk h
  refine ⟨?_, (serviceFrameEnd_serviceOnly n _ s).others, fun d hd => ?_, fun unfinished => ?_⟩
  · subst onLine
    rw [ht, setSlot_line_same, e.apply_line]
    simp [unowed, owedAfter]
  · simp [ht, e.apply_ctx, hd]
  · have goes : ∀ a x, e.body r ≠ .finished r a x := by simpa [ht, e.apply_ctx] using unfinished r
    rw [ht, setSlot_events, e.apply_events c r _ goes, judgeDelivery_events]

end CheckOk

/-- Settles O47: the frame of an attempt that goes on, and then its context phase by phase. -/
theorem attemptAdvances : Obligations.AttemptAdvances := by
  intro s n c r p l raw ew reply h noFailure t counted
  have go := goesOn_of_no_failure noFailure
  have ht : t = _ := serviceFrameEnd_of_checkOk h
  have ⟨_, _, onLine⟩ := h
  obtain ⟨line, others, contexts, events⟩ := serviceFrameEnd_of_goesOn (l := l) (raw := raw) (ew := ew) h go
  refine ⟨line, others, contexts, events, fun i a hp slot => ?_, fun w hp hr => ?_, fun w d hp hr => ?_,
    fun status expected nibbles d hp hr unfinished => ?_, fun status expected nibbles d hp hr whole => ?_, fun hp => ?_⟩
  all_goals rw [hp] at go; change p.counted.phase = _ at hp
  · cases go with
    | sending _ hr =>
      have own : (s.line n).slot.ofContext c = true := by simp [slot, SlotInFlight.ofContext]
      rw [ht, advanceCtx_sending _ _ hp hr, if_pos own]
      show _ = ContextBody.active r { counted with
        phase := if i + 1 = r.length then .awaiting 0 else .sending (i + 1) }
      simp [counted]
  · subst hr
    cases go with
    | waiting hw => rw [ht, advanceCtx_waiting _ _ hp hw]; simp [counted]
  · subst hr
    cases go with
    | status _ hd =>
      rw [ht, advanceCtx_status _ _ hp hd]
      exact ⟨_, encStatusOf_eq_expected d ▸ hd, by simp [counted]⟩
  · subst hr
    cases go with
    | nibble _ _ hl => rw [ht, advanceCtx_nibble _ _ d hp hl]; simp [counted]
    | accepted hl => exact absurd hl unfinished
  · subst hr
    cases go with
    | nibble _ _ hl => exact absurd whole hl
    | accepted hl busy check =>
      rw [ht, advanceCtx_accepted _ _ hp hl busy check, finishCtx_setBody, onLine]
      refine ⟨?_, by simp [doneResult]⟩
      show _ = ContextBody.finished r p.attempts (doneResult status (replyData status r.op nibbles) (framesCounted p))
      simp
  · rw [ht, advanceCtx_restarting _ _ _ hp]; simp [counted]

end Sys2Proof.Machine
end

section
/-! PROOFS. The frame of a line's work: what the service engine at a frame end, a departure, the health counting, a
record and a deferred disable of line `n` leave of the rest of the part (R32, R36, R142). -/

namespace Sys2Proof.Machine

/-! ## The service engine at a frame end -/

/-- A line has an ACTIVE context or none. -/
theorem activeCtx_cases (s : State) (n : LineNo) : s.activeCtx n = none ∨ ∃ c r p, ActiveOn s n c r p := by
  cases h : s.activeCtx n with
  | none => exact .inl rfl
  | some c =>
    obtain ⟨r, p, body, onLine⟩ := activeCtx_some h
    exact .inr ⟨c, r, p, h, body, onLine⟩

/-- A frame end with an ACTIVE context is its effect between the delivery and the clearing of the slot in flight. -/
theorem serviceFrameEnd_effect (n : LineNo) (c : CtxNo) (r : Request) (p : Progress) (x : SlotInFlight)
    (result : FrameResult) :
    ∃ e : CtxEffect, ∀ s, ActiveOn s n c r p → (s.line n).slot = x →
      serviceFrameEnd n result s = (e.apply c r (judgeDelivery n result.outcome s)).setSlot n .none := by
  obtain ⟨e, he⟩ := ctxFrameEnd_effect c r p x result
  exact ⟨e, fun s h hx => by rw [serviceFrameEnd_of_active result h, hx, he]⟩

/-- A frame end leaves every context that is not ACTIVE on the line. -/
theorem serviceFrameEnd_ctx_of_not_active {s : State} {n : LineNo} {d : CtxNo} (result : FrameResult)
    (h : (s.ctx d).body.activeOn ≠ some n) : (serviceFrameEnd n result s).ctx d = s.ctx d := by
  obtain none' | ⟨c, r, p, active⟩ := activeCtx_cases s n
  · simp [serviceFrameEnd_of_none result none']
  · obtain ⟨e, he⟩ := serviceFrameEnd_effect n c r p (s.line n).slot result
    have ne : d ≠ c := by
      rintro rfl
      obtain ⟨-, body, onLine⟩ := active
      simp [body, ContextBody.activeOn, onLine] at h
    simp [he s active rfl, e.apply_ctx, ne]

/-- A frame end takes no context out of the line's queue, and leaves no slot in flight. -/
theorem serviceFrameEnd_line (s : State) (n : LineNo) (result : FrameResult) :
    (serviceFrameEnd n result s).line n = { s.line n with
      abortOwed := ((serviceFrameEnd n result s).line n).abortOwed, slot := .none } := by
  obtain none' | ⟨c, r, p, active⟩ := activeCtx_cases s n
  · simp [serviceFrameEnd_of_none result none']
  · obtain ⟨e, he⟩ := serviceFrameEnd_effect n c r p (s.line n).slot result
    obtain ⟨-, -, rfl⟩ := id active
    simp [he s active rfl, e.apply_line]

/-- The service engine's work at a frame end reads the contexts and the line's slot in flight and abort-owed flag: in
two states that agree in them it leaves the same contexts, and the same abort-owed flag. -/
theorem serviceFrameEnd_congr {s t : State} {n : LineNo} (result : FrameResult)
    (contexts : t.service.contexts = s.service.contexts) (slot : (t.line n).slot = (s.line n).slot)
    (owed : (t.line n).abortOwed = (s.line n).abortOwed) :
    (∀ c, (serviceFrameEnd n result t).ctx c = (serviceFrameEnd n result s).ctx c) ∧
      ((serviceFrameEnd n result t).line n).abortOwed = ((serviceFrameEnd n result s).line n).abortOwed := by
  have ctx : ∀ c, t.ctx c = s.ctx c := fun c => by simp only [State.ctx, contexts]
  have found := activeCtx_congr contexts n
  have delivery : owedAfter (t.line n) result.outcome = owedAfter (s.line n) result.outcome := by
    simp only [owedAfter, slot, owed]
  obtain none' | ⟨c, r, p, active⟩ := activeCtx_cases s n
  · rw [serviceFrameEnd_of_none result none', serviceFrameEnd_of_none result (found.trans none')]
    simp [ctx, delivery]
  · obtain ⟨e, he⟩ := serviceFrameEnd_effect n c r p (s.line n).slot result
    have active' : ActiveOn t n c r p := by
      obtain ⟨here, body, onLine⟩ := active
      exact ⟨found.trans here, (ctx c).symm ▸ body, onLine⟩
    obtain ⟨-, -, rfl⟩ := id active
    rw [he s active rfl, he t active' slot]
    simp [e.apply_ctx, e.apply_line, ctx, delivery]

/-! ## Work that leaves the rest of the part -/

/-- Work of line `n` that leaves all that `OnlyLine` names, and puts no context into the line's queue. -/
structure LineWork (n : LineNo) (s t : State) : Prop where
  only : OnlyLine n s t
  queue : ∀ c, c ∈ (t.line n).queue → c ∈ (s.line n).queue

theorem LineWork.refl (n : LineNo) (s : State) : LineWork n s s :=
  ⟨⟨fun _ _ => rfl, rfl, rfl, rfl, rfl, rfl, fun _ _ _ => rfl, fun _ => id, fun _ => .inl⟩, fun _ => id⟩

theorem LineWork.trans {n : LineNo} {s t u : State} (h : LineWork n s t) (k : LineWork n t u) : LineWork n s u := by
  obtain ⟨⟨lines, port, reset, mask, hold, service, contexts, kept, new⟩, queue⟩ := h
  obtain ⟨⟨lines', port', reset', mask', hold', service', contexts', kept', new'⟩, queue'⟩ := k
  refine ⟨⟨fun m hm => (lines' m hm).trans (lines m hm), port'.trans port, reset'.trans reset, mask'.trans mask,
    hold'.trans hold, ?_, fun c idle out => ?_, fun x => kept' x ∘ kept x, fun x hx => ?_⟩, fun c => queue c ∘ queue' c⟩
  · rw [service', service]
  · have same := contexts c idle out
    exact (contexts' c (same ▸ idle) (out ∘ queue c)).trans same
  · exact (new' x hx).elim (new x) .inr

/-- An update of the line that puts no context into its queue. -/
theorem updLine_lineWork {n : LineNo} (s : State) {f : Line → Line} (h : (f (s.line n)).queue = (s.line n).queue) :
    LineWork n s (s.updLine n f) :=
  ⟨⟨fun _ hm => updLine_line_ne s f hm, rfl, rfl, rfl, rfl, rfl, fun _ _ _ => rfl, fun _ => id, fun _ => .inl⟩,
    fun c => by simp [h]⟩

theorem post_lineWork (n : LineNo) (i : EventInfo) (s : State) : LineWork n s (post i s) :=
  ⟨⟨fun _ _ => rfl, rfl, rfl, rfl, rfl, rfl, fun _ _ _ => rfl, fun _ => id, fun _ => .inl⟩, fun _ => id⟩

/-- A cause raised that names the line. -/
theorem raiseCause_lineWork {n : LineNo} {cause : FaultCause} (s : State) (h : cause.line? = some n) :
    LineWork n s (raiseCause cause s) where
  only := by
    refine ⟨fun m _ => raiseCause_line _ _ _, raiseCause_port _ _, raiseCause_resetLow _ _, raiseCause_mask _ _,
      by rw [raiseCause_banks], by rw [raiseCause_service], fun c _ _ => ?_, fun x hx => ?_, fun x hx => ?_⟩
    · simp only [State.ctx, raiseCause_service]
    · exact (mem_raiseCause _ _ _).mpr (.inr hx)
    · obtain rfl | old := (mem_raiseCause _ _ _).mp hx
      · exact .inr h
      · exact .inl old
  queue c := by rw [raiseCause_line]; exact id

/-- The service engine's work keeps the service configuration. -/
theorem ServiceOnly.service {n : LineNo} {s t : State} (h : ServiceOnly n s t) :
    t.service = { s.service with contexts := t.service.contexts } :=
  calc t.service = ⟨t.service.contexts, t.service.attemptLimit, t.service.replyWindow, t.service.configIgnored⟩ := rfl
    _ = _ := by rw [h.attemptLimit, h.replyWindow, h.configIgnored]

/-- The service engine's work for a line that leaves the contexts which are neither ACTIVE on it nor in its queue. -/
theorem ServiceOnly.lineWork {n : LineNo} {s t : State} (h : ServiceOnly n s t)
    (contexts : ∀ c, (s.ctx c).body.activeOn ≠ some n → c ∉ (s.line n).queue → t.ctx c = s.ctx c)
    (queue : ∀ c, c ∈ (t.line n).queue → c ∈ (s.line n).queue) : LineWork n s t where
  only :=
    ⟨h.others, h.port, h.resetLow, h.mask, by rw [h.banks], h.service, contexts, fun x hx => h.faults ▸ hx,
      fun x hx => .inl (h.faults ▸ hx)⟩
  queue := queue

theorem serviceFrameEnd_lineWork (n : LineNo) (result : FrameResult) (s : State) :
    LineWork n s (serviceFrameEnd n result s) :=
  (serviceFrameEnd_serviceOnly n result s).lineWork (fun _ idle _ => serviceFrameEnd_ctx_of_not_active result idle)
    fun c => by rw [serviceFrameEnd_line]; exact id

/-- Contexts that are not in the list of those that fail stay as they were. -/
theorem failAll_ctx_of_not_mem (reason : FailureReason) (cs : List CtxNo) (s : State) {d : CtxNo} (h : d ∉ cs) :
    (cs.foldl (failForDeparture reason) s).ctx d = s.ctx d := by
  induction cs generalizing s with
  | nil => rfl
  | cons c cs ih =>
    obtain ⟨ne, out⟩ := not_or.mp (List.mem_cons.not.mp h)
    rw [List.foldl_cons, ih _ out]
    unfold failForDeparture finishCtx
    split <;> simp [setBody_ctx_ne _ _ ne]

theorem failLine_lineWork (n : LineNo) (reason : FailureReason) (s : State) : LineWork n s (failLine n reason s) := by
  refine (failLine_serviceOnly n reason s).lineWork (fun c idle out => ?_) fun c => by simp [failLine_line]
  refine failAll_ctx_of_not_mem reason _ s fun mem => ?_
  obtain found | queued := List.mem_append.mp mem
  · obtain ⟨r, p, body, onLine⟩ := activeCtx_some (Option.mem_toList.mp found)
    simp [body, ContextBody.activeOn, onLine] at idle
  · exact out queued

/-! ## The position unit -/

theorem compareReference_lineWork (n : LineNo) (ew : ErrWrn) (s : State) : LineWork n s (compareReference n ew s) := by
  unfold compareReference
  split
  · exact .refl n s
  · exact (updLine_lineWork s rfl).trans (post_lineWork n _ _)

theorem continuityLost_lineWork (n : LineNo) (age : Nat) (s : State) : LineWork n s (continuityLost n age s) := by
  simp only [continuityLost]
  split
  · exact (post_lineWork n _ s).trans (raiseCause_lineWork _ rfl)
  · exact post_lineWork n _ s

theorem takeArmedPreset_lineWork (n : LineNo) (s : State) : LineWork n s (takeArmedPreset n s) := by
  unfold takeArmedPreset
  split
  · exact .refl n s
  · exact (updLine_lineWork s rfl).trans (post_lineWork n _ _)

theorem applySample_lineWork (n : LineNo) (case : SampleCase) (r : Nat) (s : State) :
    LineWork n s (applySample n case r s) := by
  simp only [applySample]
  split
  · refine LineWork.trans ?_ (takeArmedPreset_lineWork n _)
    have trusted : LineWork n s (s.updPos n fun v => v.trust (s.line n).profile case r) := updLine_lineWork s rfl
    split
    · exact trusted.trans (continuityLost_lineWork n _ _)
    · exact trusted
  · exact .refl n s

theorem positionWork_lineWork (n : LineNo) (result : FrameResult) (s : State) :
    LineWork n s (positionWork n result s).1 := by
  cases result with
  | checkOk l raw ew reply =>
    simp only [positionWork, positionFrameEnd]
    split
    · exact compareReference_lineWork n ew s
    · exact (compareReference_lineWork n ew s).trans (applySample_lineWork n _ _ _)
  | noAck => exact .refl n s
  | noStart => exact .refl n s
  | checkFail l => exact .refl n s

/-! ## Departure, health, the record and the deferred disable -/

theorem dropPreset_lineWork (n : LineNo) (entered : LineState) (s : State) : LineWork n s (dropPreset n entered s) := by
  unfold dropPreset
  split
  · exact .refl n s
  · exact (updLine_lineWork s rfl).trans (post_lineWork n _ _)

theorem departService_lineWork (n : LineNo) (d : Departure) (reason : LineReason) (s : State) :
    LineWork n s (departService n d reason s) := by
  have left : LineWork n s (dropPreset n d.state (failLine n d.reason
      (post (.lineState n d.state reason) (s.updLine n (·.depart d))))) :=
    (((updLine_lineWork s rfl).trans (post_lineWork n _ _)).trans (failLine_lineWork n _ _)).trans
      (dropPreset_lineWork n _ _)
  simp only [departService]
  split
  · exact left.trans (raiseCause_lineWork _ rfl)
  · exact left

theorem countFailure_lineWork (n : LineNo) (s : State) : LineWork n s (countFailure n s) := by
  simp only [countFailure]
  split
  · split
    · exact (updLine_lineWork s rfl).trans (post_lineWork n _ _)
    · exact updLine_lineWork s rfl
  · split
    · exact (updLine_lineWork s rfl).trans (departService_lineWork n _ _ _)
    · exact updLine_lineWork s rfl
  · exact .refl n s

theorem countGood_lineWork (n : LineNo) (s : State) : LineWork n s (countGood n s) := by
  simp only [countGood]
  split
  · exact updLine_lineWork s rfl
  · split
    · exact (updLine_lineWork s rfl).trans (post_lineWork n _ _)
    · exact updLine_lineWork s rfl
  · exact .refl n s

theorem countSample_lineWork (n : LineNo) (status : SampleStatus) (s : State) :
    LineWork n s (countSample n status s) := by
  unfold countSample
  split
  · exact countGood_lineWork n s
  · exact countFailure_lineWork n s

theorem deferredDisable_lineWork (n : LineNo) (s : State) : LineWork n s (deferredDisable n s) := by
  unfold deferredDisable
  split
  · exact (updLine_lineWork s rfl).trans (departService_lineWork n _ _ _)
  · exact .refl n s

/-- Work on the banks, the cycle unit and the entries of the event queue alone, with HOLD kept. -/
theorem lineWork_of_banks (n : LineNo) {s t : State} (h : t = { s with
      banks := t.banks, cycle := t.cycle, events := { s.events with entries := t.events.entries } })
    (hold : t.banks.hold = s.banks.hold) : LineWork n s t := by
  have line : ∀ m, t.line m = s.line m := fun m => by rw [h]; rfl
  have ctx : ∀ c, t.ctx c = s.ctx c := fun c => by rw [h]; rfl
  have faults : t.faults = s.faults := by rw [h]
  exact ⟨⟨fun m _ => line m, by rw [h], by rw [h], by rw [h], hold, by rw [h], fun c _ _ => ctx c,
    fun x hx => faults ▸ hx, fun x hx => .inl (faults ▸ hx)⟩, fun c => by rw [line]; exact id⟩

theorem writeRecord_lineWork (n : LineNo) (status : SampleStatus) (ew : Option ErrWrn) (latency : Option Nat)
    (s : State) : LineWork n s (writeRecord n status ew latency s) :=
  (updLine_lineWork s rfl).trans (lineWork_of_banks n (by rw [writeRecord_frame]) (by simp [writeRecord]))

end Sys2Proof.Machine
end

section
/-! PROOFS. The position unit at a running frame end (R53 to R68): its judgement, the status that follows from it, and
what it leaves of the anchor state. -/

namespace Sys2Proof.Machine

/-! ## The position unit's work (R53 to R68) -/

@[simp] theorem continuityLost_line (n : LineNo) (age : Nat) (s : State) (m : LineNo) :
    (continuityLost n age s).line m = s.line m := by
  simp only [continuityLost]
  split <;> simp

/-- The position unit with an armed preset taken, or as it was (R63). -/
def PositionUnit.settled (u : PositionUnit) : PositionUnit :=
  match u.preset with
  | none => u
  | some value => u.takePreset value

theorem settled_of_none {u : PositionUnit} (h : u.preset = none) : u.settled = u := by
  simp [PositionUnit.settled, h]

theorem settled_of_some {u : PositionUnit} {value : Count48} (h : u.preset = some value) :
    u.settled = u.takePreset value := by
  simp [PositionUnit.settled, h]

@[simp] theorem settled_preset (u : PositionUnit) : u.settled.preset = none := by
  cases h : u.preset <;> simp [PositionUnit.settled, PositionUnit.takePreset, h]

@[simp] theorem settled_reference (u : PositionUnit) : u.settled.reference = u.reference := by
  cases h : u.preset <;> simp [PositionUnit.settled, PositionUnit.takePreset, h]

@[simp] theorem trust_reference (u : PositionUnit) (p : Profile) (case : SampleCase) (r : Nat) :
    (u.trust p case r).reference = u.reference := by
  cases case <;> rfl

theorem takeArmedPreset_line (n : LineNo) (s : State) :
    (takeArmedPreset n s).line n = { s.line n with pos := (s.line n).pos.settled } := by
  unfold takeArmedPreset
  split
  · next h => rw [settled_of_none h]
  · next value h => simp [State.updPos, settled_of_some h]

/-- A trusted sample settles the anchor state that it moved. -/
theorem applySample_line_of_trusted (n : LineNo) {case : SampleCase} (r : Nat) (s : State) (h : case.trusted = true) :
    (applySample n case r s).line n =
      { s.line n with pos := ((s.line n).pos.trust (s.line n).profile case r).settled } := by
  simp only [applySample, h, if_true, takeArmedPreset_line]
  split <;> simp [State.updPos]

theorem compareReference_line (n : LineNo) (ew : ErrWrn) (s : State) :
    (compareReference n ew s).line n = { s.line n with pos := { (s.line n).pos with reference := ew } } := by
  unfold compareReference
  split
  · next h => simp [← h]
  · simp [State.updPos]

/-- The case of a sample of line `n` with a raw value (R53). -/
abbrev caseOf (s : State) (n : LineNo) (raw : Nat) : SampleCase :=
  judgeSample (s.line n).profile (s.line n).pos (decodedOf s n raw)

/-- A CHECK_OK frame with ERR set only sets the reference (R53, R67). -/
theorem positionFrameEnd_of_err (n : LineNo) (raw : Nat) {ew : ErrWrn} (s : State) (h : ew.err = true) :
    positionFrameEnd n raw ew s = (compareReference n ew s, .none) := by
  simp [positionFrameEnd, h]

/-- A CHECK_OK frame with ERR clear sets the reference and applies its sample (R53). -/
theorem positionFrameEnd_of_sample (n : LineNo) (raw : Nat) {ew : ErrWrn} (s : State) (h : ew.err = false) :
    positionFrameEnd n raw ew s =
      (applySample n (caseOf s n raw) (decodedOf s n raw) (compareReference n ew s),
        if (caseOf s n raw).trusted then .trusted else .jump) := by
  simp only [positionFrameEnd, h, compareReference_line]
  rfl

/-- The gap rule of a line (R56). -/
theorem isGap_eq_true_iff (s : State) (n : LineNo) :
    isGap (s.line n).profile (s.line n).pos = true ↔ gapOf s n := by
  simp only [isGap, Bool.or_eq_true, decide_eq_true_eq]
  rfl

/-- A sample is not trusted exactly when it is a jump (R54, R56, R57). -/
theorem caseOf_trusted_iff (s : State) (n : LineNo) (raw : Nat) :
    (caseOf s n raw).trusted = true ↔
      ¬((s.line n).pos.anchored = true ∧ ¬gapOf s n ∧
        (s.line n).profile.jumpLimit.toNat < (deltaOf s n raw).natAbs) := by
  simp only [caseOf, judgeSample, isGap_eq_true_iff]
  by_cases anchored : (s.line n).pos.anchored = true
  · by_cases gap : gapOf s n
    · simp [anchored, gap, SampleCase.trusted]
    · by_cases far : (s.line n).profile.jumpLimit.toNat < (deltaOf s n raw).natAbs
      · simp [anchored, gap, far, SampleCase.trusted]
      · simp [anchored, gap, far, SampleCase.trusted]
  · simp [anchored, SampleCase.trusted]

/-- The status of a CHECK_OK frame with ERR clear is GOOD when its sample is trusted, and JUMP otherwise (R37). -/
theorem expectedStatus_of_sample (s : State) (n : LineNo) (l raw : Nat) {ew : ErrWrn} (reply : Slot)
    (h : ew.err = false) :
    expectedStatus s n (.checkOk l raw ew reply) = if (caseOf s n raw).trusted then .good else .jump := by
  simp only [expectedStatus, h, caseOf_trusted_iff, ite_not]
  rfl

/-- The status by which a running frame is judged is that of R37. -/
theorem sampleStatus_positionWork (n : LineNo) (result : FrameResult) (s : State) :
    sampleStatus result (positionWork n result s).2 = expectedStatus s n result := by
  cases result with
  | checkOk l raw ew reply =>
    cases err : ew.err with
    | true => simp [sampleStatus, expectedStatus, err]
    | false =>
      rw [expectedStatus_of_sample s n l raw reply err, positionWork, positionFrameEnd_of_sample n raw s err]
      by_cases trusted : (caseOf s n raw).trusted <;> simp [sampleStatus, err, trusted]
  | noAck => rfl
  | noStart => rfl
  | checkFail l => rfl

/-- The position unit of line `n` after its work at a frame end: a CHECK_OK frame sets the reference, and a good one
moves the anchor state and settles a preset (R53, R63, R67). -/
def posAfter (s : State) (n : LineNo) (result : FrameResult) : PositionUnit :=
  match result with
  | .checkOk _ raw ew _ =>
    let compared := { (s.line n).pos with reference := ew }
    if expectedStatus s n result = .good then
      (compared.trust (s.line n).profile (caseOf s n raw) (decodedOf s n raw)).settled
    else compared
  | _ => (s.line n).pos

/-- The position unit's work touches the position unit of its line only. -/
theorem positionWork_line (n : LineNo) (result : FrameResult) (s : State) :
    (positionWork n result s).1.line n = { s.line n with pos := posAfter s n result } := by
  cases result with
  | checkOk l raw ew reply =>
    simp only [positionWork, posAfter]
    cases err : ew.err with
    | true => simp [positionFrameEnd_of_err n raw s err, compareReference_line, expectedStatus, err]
    | false =>
      rw [expectedStatus_of_sample s n l raw reply err, positionFrameEnd_of_sample n raw s err]
      by_cases trusted : (caseOf s n raw).trusted
      · simp [applySample_line_of_trusted n _ _ trusted, compareReference_line, trusted]
      · simp [applySample, compareReference_line, trusted]
  | noAck => rfl
  | noStart => rfl
  | checkFail l => rfl

/-- With no CHECK_OK frame the position unit is as it was. -/
theorem posAfter_of_none {s : State} {n : LineNo} {result : FrameResult} (h : result.errWrn = none) :
    posAfter s n result = (s.line n).pos := by
  cases result <;> simp_all [posAfter, FrameResult.errWrn]

/-- A CHECK_OK frame sets the reference. -/
theorem posAfter_reference {s : State} {n : LineNo} {result : FrameResult} {ew : ErrWrn}
    (h : result.errWrn = some ew) : (posAfter s n result).reference = ew := by
  cases result <;> simp_all [posAfter, FrameResult.errWrn]
  split <;> simp

/-- A CHECK_OK frame that is not good only sets the reference. -/
theorem posAfter_of_not_good {s : State} {n : LineNo} {result : FrameResult} {ew : ErrWrn}
    (h : result.errWrn = some ew) (bad : expectedStatus s n result ≠ .good) :
    posAfter s n result = { (s.line n).pos with reference := ew } := by
  cases result <;> simp_all [posAfter, FrameResult.errWrn]

/-- A good frame leaves no preset armed, and any other one keeps it. -/
theorem posAfter_preset (s : State) (n : LineNo) (result : FrameResult) :
    (posAfter s n result).preset = if expectedStatus s n result = .good then none else (s.line n).pos.preset := by
  cases result with
  | checkOk l raw ew reply => simp only [posAfter]; split <;> simp
  | noAck => rfl
  | noStart => rfl
  | checkFail l => rfl

/-! ## The service engine stands aside -/

@[simp] theorem compareReference_service (n : LineNo) (ew : ErrWrn) (s : State) :
    (compareReference n ew s).service = s.service := by
  unfold compareReference
  split <;> rfl

@[simp] theorem continuityLost_service (n : LineNo) (age : Nat) (s : State) :
    (continuityLost n age s).service = s.service := by
  simp only [continuityLost]
  split <;> simp

@[simp] theorem takeArmedPreset_service (n : LineNo) (s : State) : (takeArmedPreset n s).service = s.service := by
  unfold takeArmedPreset
  split <;> rfl

@[simp] theorem applySample_service (n : LineNo) (case : SampleCase) (r : Nat) (s : State) :
    (applySample n case r s).service = s.service := by
  simp only [applySample]
  split
  · rw [takeArmedPreset_service]
    split <;> simp
  · rfl

/-- The position unit's work leaves the service engine as it was. -/
theorem positionWork_service (n : LineNo) (result : FrameResult) (s : State) :
    (positionWork n result s).1.service = s.service := by
  cases result with
  | checkOk l raw ew reply => simp only [positionWork, positionFrameEnd]; split <;> simp
  | noAck => rfl
  | noStart => rfl
  | checkFail l => rfl

end Sys2Proof.Machine
end

section
/-! PROOFS. The health counting (R40, R41), the deferred disable (R31), and the record and the completion (R94 to R97,
R108): what each leaves of the line and of the banks. -/

namespace Sys2Proof.Machine

/-! ## Health (R40, R41) -/

/-- A count advanced and saturated is the smaller of its successor and the limit. -/
theorem satSucc_eq_min (limit count : Nat) : satSucc limit count = min limit (count + 1) := by
  unfold satSucc
  split <;> omega

/-- A line out of service after a departure, with its counts, profile, ring and anchor state kept (R32). -/
def Line.left (l : Line) (d : Departure) : Line :=
  { l with
    state := d.state, sub := .none, waited := none, link := { l.link with watch := .none },
    queue := [], abortOwed := false, pos := { l.pos with preset := none } }

/-- A line in RUN or DEGRADED after a sample is counted: with its new health, and out of service when that is LOST. -/
def Line.counted (l : Line) (good : Bool) : Line :=
  let health := expectedHealth l good
  let counted := { l with state := health.1, failures := health.2.1, goodRun := health.2.2 }
  if health.1 = .lost then counted.left .lost else counted

/-- RUN and DEGRADED are the states in which a line runs frames. -/
theorem running_iff (l : Line) : l.running = true ↔ l.state = .run ∨ l.state = .degraded := by
  simp [Line.running]

/-- A good frame counted, on its line. -/
theorem countGood_line {s : State} {n : LineNo} (h : (s.line n).running = true) :
    (countGood n s).line n = (s.line n).counted true := by
  obtain state | state := (running_iff _).mp h
  · simp [countGood, Line.counted, expectedHealth, state]
  · by_cases recovered : (s.line n).profile.recoverCount.toNat ≤ (s.line n).goodRun + 1 <;>
      simp [countGood, Line.counted, expectedHealth, state, recovered]

/-- The failure count of R41 saturates at 63. -/
theorem failed_eq (l : Line) : l.failed = { l with failures := min 63 (l.failures + 1) } := by
  rw [Line.failed, satSucc_eq_min]
  rfl

/-- The state after a failure is that of the health counting. -/
theorem stateAfterFailure_eq (l : Line) : l.stateAfterFailure = (expectedHealth l false).1 := by
  cases h : l.state <;> simp [Line.stateAfterFailure, expectedHealth, failed_eq, h]

/-- A failure counted, on its line. -/
theorem countFailure_line {s : State} {n : LineNo} (h : (s.line n).running = true) :
    (countFailure n s).line n = (s.line n).counted false := by
  obtain state | state := (running_iff _).mp h
  · by_cases reached : (s.line n).profile.degradeThreshold.toNat ≤ min 63 ((s.line n).failures + 1) <;>
      simp [countFailure, stateAfterFailure_eq, failed_eq, Line.counted, expectedHealth, state, reached]
  · by_cases reached : (s.line n).profile.lostThreshold.toNat ≤ min 63 ((s.line n).failures + 1)
    · simp [countFailure, stateAfterFailure_eq, failed_eq, Line.counted, expectedHealth, state, reached,
        departService_line, Line.left]
    · simp [countFailure, stateAfterFailure_eq, failed_eq, Line.counted, expectedHealth, state, reached]

/-- A sample counted, on its line. -/
theorem countSample_line {s : State} {n : LineNo} (status : SampleStatus) (h : (s.line n).running = true) :
    (countSample n status s).line n = (s.line n).counted (status = .good) := by
  unfold countSample
  split
  · next good => simp [countGood_line h, good]
  · next bad => simp [countFailure_line h, bad]

/-- A sample counted leaves the contexts unless it takes the line to LOST. -/
theorem countSample_service {s : State} {n : LineNo} {status : SampleStatus}
    (h : (expectedHealth (s.line n) (status = .good)).1 ≠ .lost) : (countSample n status s).service = s.service := by
  unfold countSample
  split
  · simp only [countGood]
    split
    · rfl
    · split <;> rfl
    · rfl
  · next bad =>
    simp only [bad, decide_false, ← stateAfterFailure_eq] at h
    simp only [countFailure]
    split
    · split <;> rfl
    · rw [if_neg h]; rfl
    · rfl

/-! ## The deferred disable (R31) -/

/-- A line after its frame end: with disable-pending set it is cleared and the line OFF. -/
def Line.deferred (l : Line) : Line := if l.disablePending then { l with disablePending := false }.left .off else l

theorem deferredDisable_line (n : LineNo) (s : State) : (deferredDisable n s).line n = (s.line n).deferred := by
  unfold deferredDisable Line.deferred
  split
  · rw [departService_line]; simp [Line.left]
  · rfl

theorem deferredDisable_of_not_pending {n : LineNo} {s : State} (h : (s.line n).disablePending = false) :
    deferredDisable n s = s := by
  simp [deferredDisable, h]

/-! ## The record (R94, R96, R97, R108) -/

/-- A bank after an update of the back bank. -/
theorem updBack_bank (u : BankUnit) (f : Bank → Bank) (i : BankId) :
    (u.updBack f).bank i = if i = u.backId then f (u.bank i) else u.bank i := by
  by_cases h : i = u.backId
  · subst h; simp [BankUnit.backBank]
  · have front : i = u.front := by
      cases i <;> cases hf : u.front <;> simp_all [BankUnit.backId, BankId.other]
    subst front
    rw [if_neg h, updBack_frontBank]

/-- A record written leaves the lines, the contexts, the front bank and HOLD as they were when the cycle unit is told,
changes no record, and of the cycle only its state and its outstanding set. -/
structure Told (s t : State) : Prop where
  frame : t = { s with
    banks := t.banks, cycle := t.cycle, events := { s.events with entries := t.events.entries } }
  cycle : t.cycle = { s.cycle with state := t.cycle.state, outstanding := t.cycle.outstanding }
  hold : t.banks.hold = s.banks.hold
  records : ∀ i, (t.banks.bank i).records = (s.banks.bank i).records
  front : t.banks.bank s.banks.front = s.banks.frontBank

/-- The banks after a completion: the back header stamped, and the banks swapped or held. -/
theorem completeCycle_bank (s : State) (i : BankId) :
    (completeCycle s).banks.bank i =
      if i = s.banks.backId then
        { s.banks.bank i with header := { (s.banks.bank i).header with completed := s.cycle.timestamp } }
      else s.banks.bank i := by
  have stamped := updBack_bank s.banks
    (fun b => { b with header := { b.header with completed := s.cycle.timestamp } }) i
  rw [completeCycle_banks, ← stamped]
  split
  · cases i <;> rfl
  · exact swap_bank _ i

theorem completeCycle_told (s : State) : Told s (completeCycle s) where
  frame := by
    simp only [completeCycle]
    split <;> rfl
  cycle := by rw [completeCycle_frame]
  hold := by
    rw [completeCycle_banks]
    split
    · exact updBack_hold _ _
    · exact updBack_hold _ _
  records i := by
    rw [completeCycle_bank]
    split <;> rfl
  front := by rw [completeCycle_bank, if_neg (backId_ne_front _).symm, BankUnit.frontBank]

theorem recordWritten_told (n : LineNo) (s : State) : Told s (recordWritten n s) := by
  obtain h | ⟨-, -, ⟨-, h⟩ | ⟨-, h⟩⟩ := recordWritten_cases n s
  · rw [h]; exact ⟨rfl, rfl, rfl, fun _ => rfl, rfl⟩
  · rw [h]; exact ⟨rfl, rfl, rfl, fun _ => rfl, rfl⟩
  · rw [h]
    obtain ⟨frame, cycle, hold, records, front⟩ := completeCycle_told
      { s with cycle := { s.cycle with outstanding := s.cycle.outstanding.filter (· ≠ n) } }
    exact ⟨frame, cycle, hold, records, front⟩

theorem Told.line {s t : State} (h : Told s t) (m : LineNo) : t.line m = s.line m := by rw [h.frame]; rfl

theorem Told.ctx {s t : State} (h : Told s t) (c : CtxNo) : t.ctx c = s.ctx c := by rw [h.frame]; rfl

theorem Told.lineWork {s t : State} (h : Told s t) (n : LineNo) : LineWork n s t :=
  lineWork_of_banks n h.frame h.hold

/-- The record that a line's position unit and its ring make (R59, R90, R108). -/
abbrev recordOf (l : Line) (status : SampleStatus) (ew : Option ErrWrn) (latency : Option Nat) : LineRecord :=
  reportRecord l status ew latency (velocityOf l.profile l.pos.continuity l.ring.entries)

/-- A record written appends its entry to the line's ring. -/
theorem writeRecord_line (n : LineNo) (status : SampleStatus) (ew : Option ErrWrn) (latency : Option Nat) (s : State) :
    (writeRecord n status ew latency s).line n =
      { s.line n with ring := (s.line n).ring.append (entryOf s n status ew latency) } :=
  updLine_line_same s n fun l => { l with ring := l.ring.append (entryOf s n status ew latency) }

/-- A record written goes into the back bank. -/
theorem writeRecord_bank (n : LineNo) (status : SampleStatus) (ew : Option ErrWrn) (latency : Option Nat) (s : State)
    (i : BankId) :
    (writeRecord n status ew latency s).banks.bank i =
      if i = s.banks.backId then
        { s.banks.bank i with
          records := (s.banks.bank i).records.set n
            (recordOf ((writeRecord n status ew latency s).line n) status ew latency) }
      else s.banks.bank i :=
  updBack_bank s.banks _ i

end Sys2Proof.Machine
end

section
/-! PROOFS. The end of a running frame (R36): its steps one after the other on the line, and the record that it
writes. -/

namespace Sys2Proof.Machine

/-! ## The steps of a running frame end (R36) -/

/-- The frame closed, the position unit's work and the service engine's: the frame end up to its health counting. -/
def frameWork (n : LineNo) (result : FrameResult) (s : State) : State :=
  serviceFrameEnd n result (positionWork n result (s.updLine n (·.endFrame result))).1

/-- The frame end up to its record, the health counted. -/
def frameRecord (n : LineNo) (result : FrameResult) (s : State) : State :=
  writeRecord n (expectedStatus s n result) result.errWrn result.latency
    (countSample n (expectedStatus s n result) (frameWork n result s))

/-- The status reads the line's profile and its position unit. -/
theorem expectedStatus_congr {s t : State} {n : LineNo} (result : FrameResult)
    (profile : (t.line n).profile = (s.line n).profile) (pos : (t.line n).pos = (s.line n).pos) :
    expectedStatus t n result = expectedStatus s n result := by
  cases result <;> simp only [expectedStatus, gapOf, deltaOf, decodedOf, profile, pos]

/-- The position unit's work reads the line's profile and its position unit. -/
theorem posAfter_congr {s t : State} {n : LineNo} (result : FrameResult)
    (profile : (t.line n).profile = (s.line n).profile) (pos : (t.line n).pos = (s.line n).pos) :
    posAfter t n result = posAfter s n result := by
  cases result <;> simp only [posAfter, expectedStatus_congr _ profile pos, caseOf, decodedOf, profile, pos]

/-- Closing the frame leaves the status that it is judged by. -/
theorem expectedStatus_endFrame (n : LineNo) (result : FrameResult) (s : State) :
    expectedStatus (s.updLine n (·.endFrame result)) n result = expectedStatus s n result :=
  expectedStatus_congr result (by rw [updLine_line_same]; rfl) (by rw [updLine_line_same]; rfl)

/-- A running frame end is its record, the completion that it may make, and a deferred disable. -/
theorem runningEnd_eq (n : LineNo) (result : FrameResult) (s : State) :
    runningEnd n result s = deferredDisable n (recordWritten n (frameRecord n result s)) := by
  simp only [runningEnd, sampleStatus_positionWork, expectedStatus_endFrame]
  rfl

/-- The dispatch runs the end of the running frame in flight. -/
theorem exec_runningFrameEnd {s : State} {n : LineNo} {f : Frame} (samples : List Bool) (h : RunningFrame s n f) :
    exec (.runningFrameEnd n samples) s = .next (runningEnd n (judgeFrame f samples) s) := by
  obtain ⟨high, running, sub, frame⟩ := h
  obtain state | state := (running_iff _).mp running <;>
    simp [exec, execRunningFrameEnd, whileRunning, high, state, Line.frameInFlight, sub, frame]

/-- Every frame end does to its line what R13, R24 and R36 say. -/
theorem endFrame_eq_expected (l : Line) (result : FrameResult) : l.endFrame result = expectedFrameEnd l result := by
  cases result <;> rfl

/-- The service engine serves the frame as it would on the state before the frame end. -/
theorem frameWork_served (n : LineNo) (result : FrameResult) (s : State) :
    (∀ c, (frameWork n result s).ctx c = (serviceFrameEnd n result s).ctx c) ∧
      ((frameWork n result s).line n).abortOwed = ((serviceFrameEnd n result s).line n).abortOwed :=
  serviceFrameEnd_congr result (by rw [positionWork_service, updLine_service])
    (by rw [positionWork_line, updLine_line_same]; rfl) (by rw [positionWork_line, updLine_line_same]; rfl)

/-- The line after the frame end up to its health counting. -/
theorem frameWork_line (n : LineNo) (result : FrameResult) (s : State) :
    (frameWork n result s).line n = { expectedFrameEnd (s.line n) result with
      pos := posAfter s n result, abortOwed := ((serviceFrameEnd n result s).line n).abortOwed, slot := .none } := by
  have pos : posAfter (s.updLine n (·.endFrame result)) n result = posAfter s n result :=
    posAfter_congr result (by rw [updLine_line_same]; rfl) (by rw [updLine_line_same]; rfl)
  rw [← (frameWork_served n result s).2, ← endFrame_eq_expected]
  simp only [frameWork]
  rw [serviceFrameEnd_line, positionWork_line, pos, updLine_line_same]

theorem frameWork_lineWork (n : LineNo) (result : FrameResult) (s : State) : LineWork n s (frameWork n result s) :=
  ((updLine_lineWork s rfl).trans (positionWork_lineWork n result _)).trans (serviceFrameEnd_lineWork n result _)

theorem positionWork_lineOnly (n : LineNo) (result : FrameResult) (s : State) :
    LineOnly n s (positionWork n result s).1 := by
  cases result with
  | checkOk l raw ew reply => exact positionFrameEnd_lineOnly n raw ew s
  | noAck => exact .refl n s
  | noStart => exact .refl n s
  | checkFail l => exact .refl n s

theorem frameWork_lineOnly (n : LineNo) (result : FrameResult) (s : State) : LineOnly n s (frameWork n result s) :=
  ((updLine_lineOnly n s _).trans (positionWork_lineOnly n result _)).trans
    (serviceFrameEnd_serviceOnly n result _).lineOnly

/-- A line with a running frame still runs when its health is counted. -/
theorem frameWork_running {n : LineNo} {s : State} (result : FrameResult) (h : (s.line n).running = true) :
    ((frameWork n result s).line n).running = true := by
  rw [frameWork_line]; exact h

/-- A line that runs frames is in service. -/
theorem inService_of_running {l : Line} (h : l.running = true) : l.state.inService = true := by
  obtain state | state := (running_iff l).mp h <;> simp [state, LineState.inService]

/-! ## The line at the end -/

/-- What a line `k` in service or after its departure has in common with line `l` right after its frame end. -/
def EndedAs (l : Line) (result : FrameResult) (k : Line) : Prop :=
  k = { expectedFrameEnd l result with
    state := k.state, failures := k.failures, goodRun := k.goodRun, disablePending := k.disablePending
    sub := if k.state.inService then .recovery else .none
    waited := if k.state.inService then some 0 else none
    link := { frame := none, da := false, watch := if k.state.inService then .disregarding 2 else .none }
    pos := k.pos, ring := k.ring, queue := k.queue, abortOwed := k.abortOwed, slot := .none }

theorem endedAs_frameWork {n : LineNo} {s : State} (result : FrameResult) (h : (s.line n).running = true) :
    EndedAs (s.line n) result ((frameWork n result s).line n) := by
  simp [EndedAs, frameWork_line, expectedFrameEnd, inService_of_running h]

theorem EndedAs.left {l k : Line} {result : FrameResult} (h : EndedAs l result k) (d : Departure) :
    EndedAs l result (k.left d) := by
  unfold EndedAs Line.left
  rw [h]
  cases d <;> rfl

theorem EndedAs.deferred {l k : Line} {result : FrameResult} (h : EndedAs l result k) :
    EndedAs l result k.deferred := by
  unfold Line.deferred
  split
  · refine EndedAs.left ?_ .off
    unfold EndedAs
    rw [h]
  · exact h

/-! ## The fields of a line through its health counting and its deferred disable -/

theorem counted_state (l : Line) (good : Bool) : (l.counted good).state = (expectedHealth l good).1 := by
  simp only [Line.counted]
  split
  · next lost => rw [lost]; rfl
  · rfl

theorem counted_pos (l : Line) (good : Bool) :
    (l.counted good).pos =
      { l.pos with preset := if (expectedHealth l good).1 = .lost then none else l.pos.preset } := by
  simp only [Line.counted]
  split <;> rfl

theorem counted_ring (l : Line) (good : Bool) : (l.counted good).ring = l.ring := by
  simp only [Line.counted]
  split <;> rfl

theorem counted_disablePending (l : Line) (good : Bool) : (l.counted good).disablePending = l.disablePending := by
  simp only [Line.counted]
  split <;> rfl

/-- A line that stays in service keeps its queue and its ABORT owed. -/
theorem counted_service {l : Line} {good : Bool} (h : (expectedHealth l good).1 ≠ .lost) :
    (l.counted good).queue = l.queue ∧ (l.counted good).abortOwed = l.abortOwed := by
  simp only [Line.counted, if_neg h, and_self]

theorem deferred_state (l : Line) : l.deferred.state = if l.disablePending then .off else l.state := by
  unfold Line.deferred
  split <;> rfl

theorem deferred_pos (l : Line) :
    l.deferred.pos = { l.pos with preset := if l.disablePending then none else l.pos.preset } := by
  unfold Line.deferred
  split <;> rfl

theorem deferred_ring (l : Line) : l.deferred.ring = l.ring := by
  unfold Line.deferred
  split <;> rfl

theorem deferred_profile (l : Line) : l.deferred.profile = l.profile := by
  unfold Line.deferred
  split <;> rfl

theorem deferred_disablePending (l : Line) : l.deferred.disablePending = false := by
  unfold Line.deferred
  split
  · rfl
  · next h => simpa using h

/-- The health counting leaves a line that runs in RUN, DEGRADED or LOST. -/
theorem expectedHealth_cases {l : Line} (good : Bool) (h : l.running = true) :
    (expectedHealth l good).1 = .run ∨ (expectedHealth l good).1 = .degraded ∨ (expectedHealth l good).1 = .lost := by
  obtain state | state := (running_iff l).mp h
  · cases good with
    | true => simp [expectedHealth, state]
    | false => simp only [expectedHealth, state]; split <;> simp
  · cases good with
    | true => simp only [expectedHealth, state]; split <;> simp
    | false => simp only [expectedHealth, state]; split <;> simp

/-- A line that runs stays in service unless its health is LOST. -/
theorem expectedHealth_inService {l : Line} (good : Bool) (h : l.running = true) :
    (expectedHealth l good).1.inService = true ↔ (expectedHealth l good).1 ≠ .lost := by
  obtain state | state | state := expectedHealth_cases good h <;> simp [state, LineState.inService]

/-- New counts, and a new state in service where the old one was, keep the form. -/
theorem EndedAs.health {l k : Line} {result : FrameResult} (h : EndedAs l result k) {state : LineState}
    (same : state.inService = k.state.inService) (failures goodRun : Nat) :
    EndedAs l result { k with state := state, failures := failures, goodRun := goodRun } := by
  unfold EndedAs
  simp only [same]
  rw [h]

theorem EndedAs.counted {l k : Line} {result : FrameResult} (h : EndedAs l result k) (running : k.running = true)
    (good : Bool) : EndedAs l result (k.counted good) := by
  simp only [Line.counted]
  split
  · next lost =>
    exact (h.left .lost).health (state := .lost) rfl (expectedHealth k good).2.1 (expectedHealth k good).2.2
  · next stays =>
    have still := (expectedHealth_inService good running).mpr stays
    exact h.health (still.trans (inService_of_running running).symm) _ _

theorem EndedAs.ring {l k : Line} {result : FrameResult} (h : EndedAs l result k) (ring : Ring) :
    EndedAs l result { k with ring := ring } := by
  unfold EndedAs
  rw [h]

/-- A frame end leaves the health counting its state and its counts. -/
theorem expectedHealth_frameWork (n : LineNo) (result : FrameResult) (s : State) (good : Bool) :
    expectedHealth ((frameWork n result s).line n) good = expectedHealth (s.line n) good := by
  rw [frameWork_line]; rfl

/-! ## The record and the line of a running frame end -/

section FrameEnd

variable {s : State} {n : LineNo} {result : FrameResult}

/-- The line with its health counted and its entry in the ring. -/
theorem frameRecord_line (running : (s.line n).running = true) :
    (frameRecord n result s).line n =
      { ((frameWork n result s).line n).counted (expectedStatus s n result = .good) with
        ring := (s.line n).ring.append
          { cycle := s.cycle.number, status := expectedStatus s n result,
            extended := if expectedStatus s n result = .good then some (posAfter s n result).extended else none,
            errWrn := result.errWrn, latency := result.latency } } := by
  have cycle : (countSample n (expectedStatus s n result) (frameWork n result s)).cycle = s.cycle :=
    ((frameWork_lineOnly n result s).trans (countSample_lineOnly n _ _)).cycle
  rw [frameRecord, writeRecord_line, entryOf, cycle, countSample_line _ (frameWork_running result running),
    counted_ring, counted_pos, frameWork_line]
  rfl

theorem frameRecord_lineWork (n : LineNo) (result : FrameResult) (s : State) : LineWork n s (frameRecord n result s) :=
  ((frameWork_lineWork n result s).trans (countSample_lineWork n _ _)).trans (writeRecord_lineWork n _ _ _ _)

/-- The banks before the record is written are those of before the frame end. -/
theorem countSample_frameWork_banks (n : LineNo) (status : SampleStatus) (result : FrameResult) (s : State) :
    (countSample n status (frameWork n result s)).banks = s.banks :=
  ((frameWork_lineOnly n result s).trans (countSample_lineOnly n _ _)).banks

/-- The banks with the record written: one record of the back bank is the line's. -/
theorem frameRecord_bank (i : BankId) :
    (frameRecord n result s).banks.bank i =
      if i = s.banks.backId then
        { s.banks.bank i with
          records := (s.banks.bank i).records.set n
            (recordOf ((frameRecord n result s).line n) (expectedStatus s n result) result.errWrn result.latency) }
      else s.banks.bank i := by
  rw [frameRecord, writeRecord_bank, countSample_frameWork_banks]

/-- The part after a running frame end, but for the banks and the cycle unit: the line with its record and a deferred
disable. -/
theorem runningEnd_line (n : LineNo) (result : FrameResult) (s : State) :
    (runningEnd n result s).line n = ((frameRecord n result s).line n).deferred := by
  rw [runningEnd_eq, deferredDisable_line, (recordWritten_told n _).line]

theorem runningEnd_lineWork (n : LineNo) (result : FrameResult) (s : State) : LineWork n s (runningEnd n result s) := by
  rw [runningEnd_eq]
  exact ((frameRecord_lineWork n result s).trans ((recordWritten_told n _).lineWork n)).trans
    (deferredDisable_lineWork n _)

/-- The records of every bank after a running frame end are those with the record written. -/
theorem runningEnd_records (i : BankId) :
    ((runningEnd n result s).banks.bank i).records = ((frameRecord n result s).banks.bank i).records := by
  rw [runningEnd_eq, (deferredDisable_lineOnly n _).banks, (recordWritten_told n _).records]

/-- The record is written in the state that the health counting gave the line. -/
theorem frameRecord_state (running : (s.line n).running = true) :
    ((frameRecord n result s).line n).state = (healthAfter s n result).1 := by
  rw [frameRecord_line running]
  show (((frameWork n result s).line n).counted (expectedStatus s n result = .good)).state = _
  rw [counted_state, expectedHealth_frameWork]

/-- The record is written after the position unit's work, and after a departure to LOST dropped the preset. -/
theorem frameRecord_pos (running : (s.line n).running = true) :
    ((frameRecord n result s).line n).pos =
      { posAfter s n result with
        preset := if (healthAfter s n result).1 = .lost then none else (posAfter s n result).preset } := by
  rw [frameRecord_line running]
  show (((frameWork n result s).line n).counted (expectedStatus s n result = .good)).pos = _
  rw [counted_pos, expectedHealth_frameWork, frameWork_line]

theorem frameRecord_disablePending (running : (s.line n).running = true) :
    ((frameRecord n result s).line n).disablePending = (s.line n).disablePending := by
  rw [frameRecord_line running]
  show (((frameWork n result s).line n).counted (expectedStatus s n result = .good)).disablePending = _
  rw [counted_disablePending, frameWork_line]
  rfl

theorem frameRecord_endedAs (running : (s.line n).running = true) :
    EndedAs (s.line n) result ((frameRecord n result s).line n) := by
  rw [frameRecord_line running]
  exact ((endedAs_frameWork result running).counted (frameWork_running result running) _).ring _

/-- A line stays in service exactly when it has no deferred disable and its health is not LOST. -/
theorem runningEnd_inService (running : (s.line n).running = true) :
    ((runningEnd n result s).line n).state.inService = true ↔
      (s.line n).disablePending = false ∧ (healthAfter s n result).1 ≠ .lost := by
  rw [runningEnd_line, deferred_state, frameRecord_disablePending running, frameRecord_state running]
  cases pending : (s.line n).disablePending with
  | true => simp [LineState.inService]
  | false => simpa using expectedHealth_inService _ running

/-- While the line stays in service its contexts, its queue and its ABORT owed are as the service engine left them. -/
theorem runningEnd_served (running : (s.line n).running = true)
    (stays : ((runningEnd n result s).line n).state.inService = true) :
    let served := serviceFrameEnd n result s
    (∀ c, (runningEnd n result s).ctx c = served.ctx c) ∧
      ((runningEnd n result s).line n).queue = (served.line n).queue ∧
      ((runningEnd n result s).line n).abortOwed = (served.line n).abortOwed := by
  intro served
  obtain ⟨pending, health⟩ := (runningEnd_inService running).mp stays
  have notLost : (expectedHealth ((frameWork n result s).line n) (expectedStatus s n result = .good)).1 ≠ .lost := by
    rwa [expectedHealth_frameWork]
  have told := recordWritten_told n (frameRecord n result s)
  have settled : runningEnd n result s = recordWritten n (frameRecord n result s) := by
    rw [runningEnd_eq, deferredDisable_of_not_pending]
    rw [told.line, frameRecord_disablePending running, pending]
  obtain ⟨queue, owed⟩ := counted_service notLost
  rw [settled, told.line, frameRecord_line running]
  refine ⟨fun c => ?_, queue.trans ?_, owed.trans (frameWork_served n result s).2⟩
  · have kept := countSample_service notLost
    rw [told.ctx, ← (frameWork_served n result s).1 c]
    simp only [State.ctx, ← kept]
    rfl
  · rw [frameWork_line, serviceFrameEnd_line]
    rfl

/-- The position unit at the end: its preset is dropped when the line leaves service. -/
theorem runningEnd_pos (running : (s.line n).running = true) :
    ((runningEnd n result s).line n).pos =
      { posAfter s n result with
        preset :=
          if ((runningEnd n result s).line n).state.inService then (posAfter s n result).preset else none } := by
  have stays := runningEnd_inService (result := result) running
  rw [runningEnd_line, deferred_pos, frameRecord_pos running, frameRecord_disablePending running, ← runningEnd_line]
  by_cases pending : (s.line n).disablePending = true
  · simp [stays, pending]
  · by_cases lost : (healthAfter s n result).1 = .lost
    · simp [stays, lost]
    · simp [stays, pending, lost]

theorem frameRecord_cycle (n : LineNo) (result : FrameResult) (s : State) :
    (frameRecord n result s).cycle = s.cycle :=
  ((frameWork_lineOnly n result s).trans (countSample_lineOnly n _ _)).cycle

/-- The front selection while the record is written. -/
theorem frameRecord_front (n : LineNo) (result : FrameResult) (s : State) :
    (frameRecord n result s).banks.front = s.banks.front :=
  (updBack_front _ _).trans (congrArg BankUnit.front (countSample_frameWork_banks n _ result s))

/-- The bank that was front is as it was. -/
theorem runningEnd_frontBank (n : LineNo) (result : FrameResult) (s : State) :
    (runningEnd n result s).banks.bank s.banks.front = s.banks.frontBank := by
  have told := recordWritten_told n (frameRecord n result s)
  rw [runningEnd_eq, (deferredDisable_lineOnly n _).banks, ← frameRecord_front n result s, told.front,
    BankUnit.frontBank, frameRecord_front, frameRecord_bank, if_neg (backId_ne_front _).symm, BankUnit.frontBank]

/-- Of the cycle only its state and its outstanding set can change. -/
theorem runningEnd_cycle (n : LineNo) (result : FrameResult) (s : State) :
    (runningEnd n result s).cycle =
      { s.cycle with
        state := (runningEnd n result s).cycle.state, outstanding := (runningEnd n result s).cycle.outstanding } := by
  have told := recordWritten_told n (frameRecord n result s)
  rw [runningEnd_eq, (deferredDisable_lineOnly n _).cycle, told.cycle, frameRecord_cycle]

/-- The records of the bank that was back: the line's is written, and every other one is as it was. -/
theorem runningEnd_backRecord (m : LineNo) :
    ((runningEnd n result s).banks.bank s.banks.backId).records[m] =
      if m = n then recordOf ((frameRecord n result s).line n) (expectedStatus s n result) result.errWrn result.latency
      else s.banks.backBank.records[m] := by
  rw [runningEnd_records, frameRecord_bank, if_pos rfl]
  by_cases h : m = n
  · subst h; simp
  · have : n.val ≠ m.val := fun e => h (Fin.ext e.symm)
    simp [h, Vector.getElem_set_ne _ _ this, BankUnit.backBank]

/-- The record with the fields that the line shows at the end, but for its state and its preset. -/
theorem recordOf_frameRecord (running : (s.line n).running = true) :
    let l := (runningEnd n result s).line n
    let status := expectedStatus s n result
    recordOf ((frameRecord n result s).line n) status result.errWrn result.latency =
      { state := (healthAfter s n result).1, status := status, errWrn := result.errWrn, latency := result.latency,
        axis := if l.pos.anchored then some (l.pos.extended + l.pos.offset) else none, age := l.pos.age,
        continuity := l.pos.continuity, velocity := velocityOf l.profile l.pos.continuity l.ring.entries,
        presetArmed := status ≠ .good ∧ (healthAfter s n result).1 ≠ .lost ∧ (s.line n).pos.preset.isSome } := by
  intro l status
  have armed : ((frameRecord n result s).line n).pos.preset.isSome =
      decide (status ≠ .good ∧ (healthAfter s n result).1 ≠ .lost ∧ (s.line n).pos.preset.isSome) := by
    rw [frameRecord_pos running, posAfter_preset]
    by_cases lost : (healthAfter s n result).1 = .lost
    · simp [lost]
    · by_cases good : expectedStatus s n result = .good
      · simp [status, good]
      · simp [status, good, lost]
  simp only [recordOf, reportRecord, armed, frameRecord_state running, l]
  rw [runningEnd_line, deferred_pos, deferred_ring, deferred_profile]
  rfl

end FrameEnd

/-- Settles O22: the line, the record and the frame of a running frame end, each read off its steps in order. -/
theorem runningFrameEndWritesItsRecord : Obligations.RunningFrameEndWritesItsRecord := by
  intro s n f samples frame result status served
  have ⟨_, running, _, _⟩ := frame
  have line : (runningEnd n result s).line n = ((frameRecord n result s).line n).deferred := runningEnd_line n result s
  have pos := runningEnd_pos (result := result) running
  have ended : EndedAs (s.line n) result ((runningEnd n result s).line n) := by
    rw [line]; exact (frameRecord_endedAs running).deferred
  have enabled : ((runningEnd n result s).line n).disablePending = false := by rw [line, deferred_disablePending]
  refine ⟨runningEnd n result s, exec_runningFrameEnd samples frame, ?_, ?_, ?_, fun absent => ?_,
    fun ew present => ⟨?_, fun bad => ?_⟩, fun bad => ?_, runningEnd_served running, fun m hm => ?_,
    runningEnd_frontBank n result s, (runningEnd_lineWork n result s).only, runningEnd_cycle n result s⟩
  · unfold EndedAs at ended
    rwa [enabled] at ended
  · rw [pos, line, deferred_ring, frameRecord_line running]
  · rw [runningEnd_backRecord, if_pos rfl, recordOf_frameRecord running]
  · rw [pos, posAfter_of_none absent]
  · rw [pos]; exact posAfter_reference present
  · rw [pos, posAfter_of_not_good present bad]
  · rw [pos, posAfter_preset, if_neg bad]
  · rw [runningEnd_backRecord, if_neg hm]

end Sys2Proof.Machine
end

section
/-! PROOFS. The profile checks of LINE_ENABLE (R27): the first check of the list that fails. -/

namespace Sys2Proof.Machine

/-! ## The profile checks (R27) -/

/-- There are fourteen checks. -/
theorem profileChecks_length (p : Profile) : (profileChecks p).length = 14 := rfl

/-- Check `i + 1` stands at place `i` of the list, and asks what R27 asks. -/
theorem profileChecks_getElem (p : Profile) (i : Nat) (h : i < (profileChecks p).length) :
    (profileChecks p)[i].1 = i + 1 ∧ ((profileChecks p)[i].2 = true ↔ expectedCheck p (i + 1)) := by
  rw [profileChecks_length] at h
  interval_cases i
  all_goals refine ⟨rfl, ?_⟩
  all_goals
    simp [profileChecks, expectedCheck, Profile.width, Nat.add_comm, BitVec.toNat_eq, or_assoc]

/-- The first check that fails is one of the fourteen that fails while every check before it passes. -/
theorem firstFailingCheck_eq_some (p : Profile) (k : Nat) :
    firstFailingCheck p = some k ↔
      1 ≤ k ∧ k ≤ 14 ∧ ¬expectedCheck p k ∧ ∀ j, 1 ≤ j → j < k → expectedCheck p j := by
  have check := profileChecks_getElem p
  simp only [firstFailingCheck, Option.map_eq_some_iff, List.find?_eq_some_iff_getElem]
  constructor
  · rintro ⟨c, ⟨fails, i, hi, rfl, before⟩, rfl⟩
    have len := profileChecks_length p
    obtain ⟨number, asks⟩ := check i hi
    rw [number]
    refine ⟨by omega, by omega, by simpa [← asks] using fails, fun j low high => ?_⟩
    obtain ⟨i', rfl⟩ : ∃ i', j = i' + 1 := ⟨j - 1, by omega⟩
    exact (check i' (by omega)).2.mp (by simpa using before i' (by omega))
  · rintro ⟨low, high, fails, before⟩
    obtain ⟨i, rfl⟩ : ∃ i, k = i + 1 := ⟨k - 1, by omega⟩
    have hi : i < (profileChecks p).length := by rw [profileChecks_length]; omega
    obtain ⟨number, asks⟩ := check i hi
    refine ⟨(profileChecks p)[i], ⟨by simpa [← asks] using fails, i, hi, rfl, fun j hj => ?_⟩, number⟩
    simpa using (check j (by omega)).2.mpr (before (j + 1) (by omega) (by omega))

/-- A profile has no failing check exactly when it meets the fourteen conditions. -/
theorem firstFailingCheck_eq_none (p : Profile) :
    firstFailingCheck p = none ↔ ∀ k, 1 ≤ k → k ≤ 14 → expectedCheck p k := by
  have check := profileChecks_getElem p
  have len := profileChecks_length p
  simp only [firstFailingCheck, Option.map_eq_none_iff, List.find?_eq_none, List.forall_mem_iff_getElem]
  constructor
  · intro all k low high
    obtain ⟨i, rfl⟩ : ∃ i, k = i + 1 := ⟨k - 1, by omega⟩
    have hi : i < (profileChecks p).length := by omega
    exact (check i hi).2.mp (by simpa using all i hi)
  · intro all i hi
    simpa using (check i hi).2.mpr (all (i + 1) (by omega) (by omega))

/-- Settles O12: the search stops at the first check of the list that fails. -/
theorem profileChecksInOrder : Obligations.ProfileChecksInOrder := fun p =>
  ⟨firstFailingCheck_eq_none p, firstFailingCheck_eq_some p⟩

end Sys2Proof.Machine
end

section
/-! PROOFS. The line commands (R26 to R29): their refusals, a profile write, and the entry to PROBING. -/

namespace Sys2Proof.Machine

/-! ## Running a line command (R180) -/

/-- The dispatch hands LINE_ENABLE to its owner. -/
theorem exec_lineEnable_of_high {s : State} (da : Bool) (high : s.resetLow = false) :
    exec (.lineEnable da) s = .next (takeCommand 0x01 (withLine (lineEnable da)) s) :=
  whileRunning_of_high high _

/-- The dispatch hands LINE_DISABLE to its owner. -/
theorem exec_lineDisable_of_high {s : State} (high : s.resetLow = false) :
    exec .lineDisable s = .next (takeCommand 0x02 (withLine lineDisable) s) :=
  whileRunning_of_high high _

/-- The dispatch hands LINE_RESTART to its owner. -/
theorem exec_lineRestart_of_high {s : State} (da : Bool) (high : s.resetLow = false) :
    exec (.lineRestart da) s = .next (takeCommand 0x03 (withLine (lineRestart da)) s) :=
  whileRunning_of_high high _

/-- A line command that its owner refuses for the line that ARG0 names. -/
theorem takeCommand_withLine_refuse {s : State} {n : LineNo} {code : Word} {owner : LineNo → State → Answer}
    {r : ResultCode} {v : Nat} (h : s.names n) (refused : owner n (s.taken code) = refuse r (s.taken code) v) :
    takeCommand code (withLine owner) s = s.answered code (resultWord code r) (BitVec.ofNat 32 v) :=
  takeCommand_refuse ((withLine_of_names code owner h).trans refused)

/-- A line command that its owner accepts for the line that ARG0 names. -/
theorem takeCommand_withLine_accept {s t : State} {n : LineNo} {code : Word} {owner : LineNo → State → Answer}
    {v : Nat} (h : s.names n) (accepted : owner n (s.taken code) = accept v t) :
    takeCommand code (withLine owner) s = t.answer code .accepted (BitVec.ofNat 32 v) :=
  takeCommand_accept ((withLine_of_names code owner h).trans accepted)

/-- Settles O14: each refusal through the owner's own answer. -/
theorem lineCommandsRefuse : Obligations.LineCommandsRefuse := by
  intro s da high
  rw [exec_lineEnable_of_high da high, exec_lineDisable_of_high high, exec_lineRestart_of_high da high]
  refine ⟨fun out => ⟨?_, ?_, ?_⟩,
    fun n h => ⟨fun state => ?_, fun state => ?_, fun state => ?_, fun k state bad => ?_⟩⟩
  · rw [takeCommand_refuse (withLine_of_ge 0x01 _ out)]; rfl
  · rw [takeCommand_refuse (withLine_of_ge 0x02 _ out)]; rfl
  · rw [takeCommand_refuse (withLine_of_ge 0x03 _ out)]; rfl
  · rw [takeCommand_withLine_refuse (r := .wrongState) (v := 0) h (by simp [lineEnable, state])]; rfl
  · rw [takeCommand_withLine_refuse (r := .wrongState) (v := 0) h (by simp [lineDisable, state])]; rfl
  · rw [takeCommand_withLine_refuse (r := .wrongState) (v := 0) h (by simp [lineRestart, state])]; rfl
  · rw [takeCommand_withLine_refuse (r := .badProfile) (v := k) h (by simp [lineEnable, state, bad])]; rfl

/-! ## Writing a profile word (R26) -/

/-- Settles O16: `writeProfile` on the line, in OFF and elsewhere. -/
theorem profileWriteOnlyInOff : Obligations.ProfileWriteOnlyInOff := by
  intro s n k v high
  have run : exec (.profileWrite n k v) s = .next (s.setLine n ((s.line n).writeProfile k v)) :=
    whileRunning_of_high high fun s => s.updLine n (·.writeProfile k v)
  rw [run]
  refine ⟨fun off => ?_, fun other => ?_⟩
  · rw [Line.writeProfile, if_pos off]; rfl
  · rw [Line.writeProfile, if_neg other]

/-! ## Entry to PROBING (R29) -/

/-- Of two lines written to one number the later one stays. -/
@[simp] theorem setLine_setLine (s : State) (n : LineNo) (l l' : Line) :
    (s.setLine n l).setLine n l' = s.setLine n l' := by
  simp [State.setLine]

/-- A line that enters PROBING and takes the level of DA. -/
theorem takeDa_enterProbing (l : Line) (da : Bool) : l.enterProbing.takeDa da = expectedProbingLine l da := by
  have age : ageAtProbing l.pos = { l.pos with age := if l.pos.anchored then 255 else l.pos.age } := by
    unfold ageAtProbing; split <;> rfl
  cases da with
  | true => simp [Line.takeDa, becomeReady_of_probing, Line.enterProbing, age, expectedProbingLine, expectedProbeFrame]
  | false => simp [Line.takeDa, Line.enterProbing, age, expectedProbingLine]

/-- An entry to PROBING writes its line and posts LINE_STATE. -/
theorem enterProbing_eq (n : LineNo) (da : Bool) (why : LineReason) (s : State) :
    enterProbing n da why s =
      (s.setLine n (expectedProbingLine (s.line n) da)).posted [.lineState n .probing why] :=
  calc enterProbing n da why s
      = post (.lineState n .probing why)
          ((s.setLine n (s.line n).enterProbing).setLine n
            (((s.setLine n (s.line n).enterProbing).line n).takeDa da)) := rfl
    _ = _ := by rw [setLine_setLine, setLine_line_same, takeDa_enterProbing]; rfl

/-- Settles O13: both commands answer 0 behind the entry to PROBING. -/
theorem enableAndRestartEnterProbing : Obligations.EnableAndRestartEnterProbing := by
  intro s n da high h
  rw [exec_lineEnable_of_high da high, exec_lineRestart_of_high da high]
  refine ⟨fun off valid => ?_, fun lost => ?_⟩
  · rw [takeCommand_withLine_accept (v := 0) (t := enterProbing n da .enabled (s.taken 0x01)) h
      (by simp [lineEnable, off, valid]), enterProbing_eq]
    rfl
  · rw [takeCommand_withLine_accept (v := 0) (t := enterProbing n da .restarted (s.taken 0x03)) h
      (by simp [lineRestart, lost]), enterProbing_eq]
    rfl

end Sys2Proof.Machine
end

section
/-! PROOFS. Departure (R32, R153): what it posts, what it makes of the contexts of its line, and the whole state that
it leaves. -/

namespace Sys2Proof.Machine

/-! ## What a piece of work posts (R159, R160) -/

/-- The work from `s` to `t` posts the events `infos` in order, and keeps the cycle number that they carry. -/
def Posts (infos : List EventInfo) (s t : State) : Prop :=
  t.cycle.number = s.cycle.number ∧ t.events.entries = postAll infos s.cycle.number s.events.entries

theorem postAll_append (infos more : List EventInfo) (cycle : BitVec 16) (q : List Event) :
    postAll (infos ++ more) cycle q = postAll more cycle (postAll infos cycle q) :=
  List.foldl_append

theorem Posts.trans {infos more : List EventInfo} {s t u : State} (h : Posts infos s t) (k : Posts more t u) :
    Posts (infos ++ more) s u := by
  obtain ⟨number, entries⟩ := h
  obtain ⟨number', entries'⟩ := k
  exact ⟨number'.trans number, by rw [entries', number, entries, postAll_append]⟩

/-- Work that leaves the cycle unit and the event queue posts nothing. -/
theorem Posts.none {s t : State} (cycle : t.cycle = s.cycle) (events : t.events = s.events) : Posts [] s t :=
  ⟨by rw [cycle], by rw [events]; rfl⟩

theorem Posts.refl (s : State) : Posts [] s s := .none rfl rfl

theorem post_posts (i : EventInfo) (s : State) : Posts [i] s (post i s) := ⟨rfl, rfl⟩

/-- A cause that is not in the set is reported. -/
theorem raiseCause_posts (cause : FaultCause) (s : State) :
    Posts (if cause ∈ s.faults then [] else [.faultRaised cause]) s (raiseCause cause s) := by
  unfold raiseCause
  split
  · exact .refl s
  · exact post_posts _ { s with faults := s.faults ++ [cause] }

/-- A cause that is not in the set is added at its end. -/
theorem raiseCause_faults (cause : FaultCause) (s : State) :
    (raiseCause cause s).faults = s.faults ++ if cause ∈ s.faults then [] else [cause] := by
  unfold raiseCause
  split
  · simp
  · rfl

theorem dropPreset_posts (n : LineNo) (entered : LineState) (s : State) :
    Posts (if (s.line n).pos.preset.isSome then [.presetDropped n entered] else []) s (dropPreset n entered s) := by
  unfold dropPreset
  cases (s.line n).pos.preset with
  | none => exact .refl s
  | some v => exact post_posts _ (s.updPos n fun u => { u with preset := none })

@[simp] theorem dropPreset_service (n : LineNo) (entered : LineState) (s : State) :
    (dropPreset n entered s).service = s.service := by
  unfold dropPreset
  split <;> rfl

@[simp] theorem dropPreset_faults (n : LineNo) (entered : LineState) (s : State) :
    (dropPreset n entered s).faults = s.faults := by
  unfold dropPreset
  split <;> rfl

/-! ## The contexts of a line that leaves service (R153) -/

/-- A context is ACTIVE on line `n` or QUEUED for it. -/
def ContextBody.waitsFor (b : ContextBody) (n : LineNo) : Prop := b.activeOn = some n ∨ b.queuedOn = some n

/-- What a departure makes of the body of a context that it fails. -/
def ContextBody.fail (reason : FailureReason) : ContextBody → ContextBody
  | .active r p => .finished r p.attempts (failedResult reason none p.framesUsed)
  | .queued r => .finished r 0 (failedResult reason none 0)
  | other => other

@[simp] theorem fail_fail (reason reason' : FailureReason) (b : ContextBody) :
    (b.fail reason).fail reason' = b.fail reason := by
  cases b <;> rfl

/-- A departure fails the contexts that wait for its line, and no other. -/
theorem failedContext_of_waitsFor {n : LineNo} {x : Context} (reason : FailureReason) (h : x.body.waitsFor n) :
    failedContext n reason x = { x with body := x.body.fail reason } := by
  obtain ⟨generation, body⟩ := x
  cases body <;> simp_all [ContextBody.waitsFor, ContextBody.activeOn, ContextBody.queuedOn, failedContext,
    ContextBody.fail, failedResult]

theorem failedContext_of_not_waitsFor {n : LineNo} {x : Context} (reason : FailureReason) (h : ¬x.body.waitsFor n) :
    failedContext n reason x = x := by
  obtain ⟨generation, body⟩ := x
  cases body <;> simp_all [ContextBody.waitsFor, ContextBody.activeOn, ContextBody.queuedOn, failedContext]

/-- After a departure no context waits for its line. -/
theorem failedContext_not_waitsFor (n : LineNo) (reason : FailureReason) (x : Context) :
    ¬(failedContext n reason x).body.waitsFor n := by
  by_cases h : x.body.waitsFor n
  · rw [failedContext_of_waitsFor reason h]
    cases x.body <;> simp [ContextBody.fail, ContextBody.waitsFor, ContextBody.activeOn, ContextBody.queuedOn]
  · rwa [failedContext_of_not_waitsFor reason h]

theorem failForDeparture_ctx (reason : FailureReason) (s : State) (c d : CtxNo) :
    (failForDeparture reason s c).ctx d =
      if d = c then { s.ctx d with body := (s.ctx d).body.fail reason } else s.ctx d := by
  by_cases h : d = c
  · subst h
    cases hb : (s.ctx d).body <;> simp [failForDeparture, finishCtx, hb, ContextBody.fail]
    all_goals rw [← hb]
  · rw [if_neg h]
    unfold failForDeparture finishCtx
    split <;> simp [setBody_ctx_ne _ _ h]

/-- Contexts failed one after the other: each in the list is failed once. -/
theorem failAll_ctx (reason : FailureReason) (cs : List CtxNo) (s : State) (d : CtxNo) :
    (cs.foldl (failForDeparture reason) s).ctx d =
      if d ∈ cs then { s.ctx d with body := (s.ctx d).body.fail reason } else s.ctx d := by
  induction cs generalizing s with
  | nil => simp
  | cons c cs ih =>
    rw [List.foldl_cons, ih, failForDeparture_ctx]
    by_cases here : d = c
    · simp [here]
    · simp [here]

/-- A context that waits for its line posts its SVC_FINISHED when it is failed. -/
theorem failForDeparture_posts {n : LineNo} {s : State} {c : CtxNo} (reason : FailureReason)
    (h : (s.ctx c).body.waitsFor n) : Posts (failedEvents s reason [c]) s (failForDeparture reason s c) := by
  cases hb : (s.ctx c).body <;> simp [hb, ContextBody.waitsFor, ContextBody.activeOn, ContextBody.queuedOn] at h
  all_goals
    simp only [failedEvents, List.filterMap_cons, List.filterMap_nil, failForDeparture, hb, ContextBody.request?]
    exact post_posts _ (s.setBody c _)

/-- The events of failing a list read its own contexts. -/
theorem failedEvents_congr {s t : State} (reason : FailureReason) {cs : List CtxNo}
    (h : ∀ c ∈ cs, t.ctx c = s.ctx c) : failedEvents t reason cs = failedEvents s reason cs :=
  List.filterMap_congr fun c hc => by rw [h c hc]

/-- Contexts that wait for one line, each listed once, post their SVC_FINISHED in the order of the list. -/
theorem failAll_posts {n : LineNo} (reason : FailureReason) {cs : List CtxNo} {s : State} (once : cs.Nodup)
    (waits : ∀ c ∈ cs, (s.ctx c).body.waitsFor n) :
    Posts (failedEvents s reason cs) s (cs.foldl (failForDeparture reason) s) := by
  induction cs generalizing s with
  | nil => exact .refl s
  | cons c cs ih =>
    obtain ⟨out, once'⟩ := List.nodup_cons.mp once
    have kept : ∀ d ∈ cs, (failForDeparture reason s c).ctx d = s.ctx d := fun d hd => by
      rw [failForDeparture_ctx, if_neg (ne_of_mem_of_not_mem hd out)]
    have rest := ih (s := failForDeparture reason s c) once' fun d hd => by
      rw [kept d hd]; exact waits d (List.mem_cons_of_mem c hd)
    rw [failedEvents_congr reason kept] at rest
    have split : failedEvents s reason (c :: cs) = failedEvents s reason [c] ++ failedEvents s reason cs :=
      List.filterMap_append (l := [c])
    rw [split]
    exact (failForDeparture_posts reason (waits c (List.mem_cons_self ..))).trans rest

/-- Whatever the contexts hold, failing them only posts. -/
theorem failAll_posts_some (reason : FailureReason) (cs : List CtxNo) (s : State) :
    ∃ infos, Posts infos s (cs.foldl (failForDeparture reason) s) := by
  induction cs generalizing s with
  | nil => exact ⟨[], .refl s⟩
  | cons c cs ih =>
    obtain ⟨more, rest⟩ := ih (failForDeparture reason s c)
    have one : ∃ infos, Posts infos s (failForDeparture reason s c) := by
      unfold failForDeparture
      split
      · exact ⟨_, post_posts _ (s.setBody c _)⟩
      · exact ⟨_, post_posts _ (s.setBody c _)⟩
      · exact ⟨[], .refl s⟩
    obtain ⟨infos, first⟩ := one
    exact ⟨infos ++ more, first.trans rest⟩

/-! ## The contexts that wait for a line (R123, R124) -/

/-- What the queue law and the law of R124 say of line `n`: its queue holds each of its QUEUED contexts once and nothing
else, and at most one context is ACTIVE on it. -/
structure QueueFits (s : State) (n : LineNo) : Prop where
  once : (s.line n).queue.Nodup
  queued : ∀ c, c ∈ (s.line n).queue ↔ (s.ctx c).body.queuedOn = some n
  unique : ∀ c c', (s.ctx c).body.activeOn = some n → (s.ctx c').body.activeOn = some n → c = c'

theorem queueFits_of_laws {s : State} (queue : QueueLaw s) (active : ActiveLaw s) (n : LineNo) : QueueFits s n :=
  ⟨(queue n).1, (queue n).2, fun c c' => active.1 c c' n⟩

/-- The law reads the line's queue and the contexts. -/
theorem QueueFits.congr {s t : State} {n : LineNo} (h : QueueFits s n)
    (line : (t.line n).queue = (s.line n).queue) (service : t.service = s.service) : QueueFits t n := by
  have ctx : ∀ c, t.ctx c = s.ctx c := fun c => by simp only [State.ctx, service]
  obtain ⟨once, queued, unique⟩ := h
  constructor <;> simpa only [line, ctx]

/-- The contexts that a departure of line `n` fails, in order (R153). -/
abbrev departing (s : State) (n : LineNo) : List CtxNo := (s.activeCtx n).toList ++ (s.line n).queue

theorem mem_departing {s : State} {n : LineNo} (h : QueueFits s n) (c : CtxNo) :
    c ∈ departing s n ↔ (s.ctx c).body.waitsFor n := by
  simp only [departing, List.mem_append, Option.mem_toList, ContextBody.waitsFor, h.queued]
  refine or_congr_left ⟨fun found => ?_, fun active => ?_⟩
  · obtain ⟨r, p, body, onLine⟩ := activeCtx_some found
    simp [body, ContextBody.activeOn, onLine]
  · obtain none' | ⟨c', r, p, found, body, onLine⟩ := activeCtx_cases s n
    · cases hb : (s.ctx c).body <;> simp [hb, ContextBody.activeOn] at active
      exact absurd active (activeCtx_none none' hb)
    · rw [h.unique c c' active (by simp [body, ContextBody.activeOn, onLine]), found]

theorem departing_nodup {s : State} {n : LineNo} (h : QueueFits s n) : (departing s n).Nodup := by
  refine List.Nodup.append (by cases s.activeCtx n <;> simp) h.once fun c found queued => ?_
  obtain ⟨r, p, body, -⟩ := activeCtx_some (Option.mem_toList.mp found)
  simpa [body, ContextBody.queuedOn] using (h.queued c).mp queued

/-- A departure fails the contexts of its line. -/
theorem failLine_ctx {s : State} {n : LineNo} (h : QueueFits s n) (reason : FailureReason) (c : CtxNo) :
    (failLine n reason s).ctx c = failedContext n reason (s.ctx c) := by
  simp only [failLine, updLine_ctx, failAll_ctx]
  by_cases waits : (s.ctx c).body.waitsFor n
  · rw [if_pos ((mem_departing h c).mpr waits), failedContext_of_waitsFor reason waits]
  · rw [if_neg fun mem => waits ((mem_departing h c).mp mem), failedContext_of_not_waitsFor reason waits]

/-- A departure posts the SVC_FINISHED of the contexts of its line. -/
theorem failLine_posts {s : State} {n : LineNo} (h : QueueFits s n) (reason : FailureReason) :
    Posts (failedEvents s reason (departing s n)) s (failLine n reason s) :=
  failAll_posts reason (departing_nodup h) fun c => (mem_departing h c).mp

/-! ## The whole of a departure (R32) -/

/-- Work of one line, as one state. -/
theorem LineOnly.eq {n : LineNo} {s t : State} (h : LineOnly n s t) :
    t = { s.setLine n (t.line n) with
      service := t.service, faults := t.faults, events := { s.events with entries := t.events.entries } } := by
  obtain ⟨reset, cycle, banks, port, pending, mask, others⟩ := h
  have lines : t.lines = s.lines.set n (t.line n) := by
    refine Vector.ext fun i hi => ?_
    by_cases here : i = n.val
    · subst here; simp [State.line]
    · have kept := others ⟨i, hi⟩ (fun e => here (congrArg Fin.val e))
      rw [Vector.getElem_set_ne _ _ (Ne.symm here)]
      exact kept
  calc t = ⟨t.resetLow, t.lines, t.cycle, t.banks, t.service, ⟨t.events.entries, t.events.mask⟩, t.faults, t.port,
        t.pending⟩ := rfl
    _ = _ := by rw [reset, lines, cycle, banks, port, pending, mask]; rfl

/-- The statements give a departure the model's state and the model's reason. -/
theorem enteredState_eq (d : Departure) : enteredState d = (d.state, d.reason) := by cases d <;> rfl

/-- A line out of service, its LINE_STATE posted: the beginning of a departure. -/
def announced (n : LineNo) (d : Departure) (why : LineReason) (s : State) : State :=
  post (.lineState n d.state why) (s.updLine n (·.depart d))

theorem announced_line (n : LineNo) (d : Departure) (why : LineReason) (s : State) :
    (announced n d why s).line n = (s.line n).depart d :=
  updLine_line_same s n (·.depart d)

theorem announced_posts (n : LineNo) (d : Departure) (why : LineReason) (s : State) :
    Posts [.lineState n d.state why] s (announced n d why s) :=
  post_posts _ (s.updLine n _)

theorem announced_fits {n : LineNo} {s : State} (h : QueueFits s n) (d : Departure) (why : LineReason) :
    QueueFits (announced n d why s) n :=
  h.congr (by rw [announced_line]; rfl) rfl

/-- A departure before the cause of a SAFETY line is raised: LINE_STATE, the contexts and the preset. -/
def leaveService (n : LineNo) (d : Departure) (why : LineReason) (s : State) : State :=
  dropPreset n d.state (failLine n d.reason (announced n d why s))

/-- The cause of a departure is raised last. -/
theorem departService_eq (n : LineNo) (d : Departure) (why : LineReason) (s : State) :
    departService n d why s =
      if d = .lost ∧ (s.line n).profile.safety = true then raiseCause (.lineLost n) (leaveService n d why s)
      else leaveService n d why s := by
  have safety : ((leaveService n d why s).line n).profile.safety = (s.line n).profile.safety := by
    simp [leaveService, dropPreset_line, failLine_line, announced_line, Line.depart]
  rw [← safety]
  simp only [departService, Bool.and_eq_true, decide_eq_true_eq]
  rfl

theorem leaveService_faults (n : LineNo) (d : Departure) (why : LineReason) (s : State) :
    (leaveService n d why s).faults = s.faults := by
  rw [leaveService, dropPreset_faults, (failLine_serviceOnly n _ _).faults]
  rfl

/-- A departure of a SAFETY line to LOST adds its cause (R169). -/
theorem departService_faults (n : LineNo) (d : Departure) (why : LineReason) (s : State) :
    (departService n d why s).faults = s.faults ++ departCauses s n d := by
  rw [departService_eq, departCauses]
  by_cases safety : d = .lost ∧ (s.line n).profile.safety = true
  · rw [if_pos safety, raiseCause_faults, leaveService_faults]
    by_cases known : FaultCause.lineLost n ∈ s.faults
    · simp [known]
    · simp [known, safety]
  · rw [if_neg safety, leaveService_faults, if_neg fun h => safety ⟨h.1, h.2.1⟩, List.append_nil]

/-- The cause of a departure posts FAULT_RAISED behind all else that the departure posts. -/
theorem departService_posts_of_leave {n : LineNo} {d : Departure} {why : LineReason} {s : State}
    {infos : List EventInfo} (h : Posts infos s (leaveService n d why s)) :
    Posts (infos ++ (departCauses s n d).map .faultRaised) s (departService n d why s) := by
  have raised := h.trans (raiseCause_posts (.lineLost n) _)
  rw [leaveService_faults] at raised
  rw [departService_eq, departCauses]
  by_cases safety : d = .lost ∧ (s.line n).profile.safety = true
  · rw [if_pos safety]
    by_cases known : FaultCause.lineLost n ∈ s.faults
    · simpa [known] using raised
    · simpa [known, safety] using raised
  · rw [if_neg safety, if_neg fun h => safety ⟨h.1, h.2.1⟩]
    simpa using h

/-- The events of a departure, in order (R32, R65, R153, R169). -/
theorem departService_posts {s : State} {n : LineNo} (h : QueueFits s n) (d : Departure) (why : LineReason) :
    Posts (departEvents s n d why (s.line n).pos.preset.isSome) s (departService n d why s) := by
  have same : departing (announced n d why s) n = departing s n := by
    rw [departing, departing, announced_line, activeCtx_congr (s := s) rfl n]
    rfl
  have events : failedEvents (announced n d why s) d.reason (departing s n) = failedEvents s d.reason (departing s n) :=
    failedEvents_congr d.reason fun _ _ => rfl
  have failed := failLine_posts (announced_fits h d why) d.reason
  rw [same, events] at failed
  have dropped := dropPreset_posts n d.state
    (failLine n d.reason (announced n d why s))
  simp only [failLine_line, announced_line, Line.depart] at dropped
  have all := departService_posts_of_leave (((announced_posts n d why s).trans failed).trans dropped)
  simpa only [departEvents, enteredState_eq] using all

/-- Whatever the contexts hold, a departure first posts its LINE_STATE. -/
theorem departService_posts_first (n : LineNo) (d : Departure) (why : LineReason) (s : State) :
    ∃ after, Posts (.lineState n d.state why :: after) s (departService n d why s) := by
  obtain ⟨infos, failed⟩ := failAll_posts_some d.reason (departing (announced n d why s) n) (announced n d why s)
  have dropped := dropPreset_posts n d.state (failLine n d.reason (announced n d why s))
  exact ⟨_, departService_posts_of_leave (((announced_posts n d why s).trans failed).trans dropped)⟩

/-- A departure leaves the contexts as failing the line leaves them. -/
theorem departService_service (n : LineNo) (d : Departure) (why : LineReason) (s : State) :
    (departService n d why s).service =
      (failLine n d.reason (announced n d why s)).service := by
  rw [departService_eq]
  split <;> simp [leaveService]

/-- Under the laws of the queues a departure is the whole state that the statements give it (R13, R32, R65, R153,
R169). -/
theorem departService_eq_departed {s : State} {n : LineNo} (h : QueueFits s n) (d : Departure) (why : LineReason) :
    departService n d why s = departed n d why s := by
  have contexts : (departService n d why s).service.contexts = s.service.contexts.map (failedContext n d.reason) := by
    refine Vector.ext fun i hi => ?_
    rw [departService_service, Vector.getElem_map]
    exact failLine_ctx (announced_fits h d why) d.reason ⟨i, hi⟩
  have service : (departService n d why s).service =
      { s.service with contexts := s.service.contexts.map (failedContext n d.reason) } := by
    rw [← contexts, departService_service]
    exact (failLine_serviceOnly n d.reason _).service
  obtain ⟨-, entries⟩ := departService_posts h d why
  rw [(departService_lineOnly n d why s).eq, departService_line, departService_faults, service, entries, departed,
    enteredState_eq]

theorem departed_line_same (n : LineNo) (d : Departure) (why : LineReason) (s : State) :
    (departed n d why s).line n = (s.line n).left d := by
  cases d <;> exact setLine_line_same s n _

theorem departed_line_ne {n m : LineNo} (d : Departure) (why : LineReason) (s : State) (h : m ≠ n) :
    (departed n d why s).line m = s.line m :=
  setLine_line_ne s _ h

theorem departed_ctx (n : LineNo) (d : Departure) (why : LineReason) (s : State) (c : CtxNo) :
    (departed n d why s).ctx c = failedContext n d.reason (s.ctx c) := by
  cases d <;> exact Vector.getElem_map _ _

/-- After a departure no context waits for the line, and none stands in its queue. -/
theorem departed_fits (n : LineNo) (d : Departure) (why : LineReason) (s : State) :
    QueueFits (departed n d why s) n := by
  have none' : ∀ c, ¬((departed n d why s).ctx c).body.waitsFor n := fun c => by
    rw [departed_ctx]; exact failedContext_not_waitsFor n _ _
  have empty : ((departed n d why s).line n).queue = [] := by rw [departed_line_same]; rfl
  refine ⟨by simp [empty], fun c => ?_, fun c _ active => absurd (.inl active) (none' c)⟩
  simp only [empty, List.not_mem_nil, false_iff]
  exact fun queued => none' c (.inr queued)

/-! ## LINE_DISABLE (R30) -/

/-- LINE_DISABLE of a line in FRAME is deferred. -/
theorem lineDisable_of_frame {s : State} {n : LineNo} (served : (s.line n).state ≠ .off)
    (sub : (s.line n).sub = .frame) :
    lineDisable n s = accept 1 (s.setLine n { s.line n with disablePending := true }) := by
  simp [lineDisable, served, sub, State.updLine]

/-- LINE_DISABLE of a line that is not in FRAME is its departure. -/
theorem lineDisable_of_not_frame {s : State} {n : LineNo} (served : (s.line n).state ≠ .off)
    (sub : (s.line n).sub ≠ .frame) : lineDisable n s = accept 0 (departService n .off .disabled s) := by
  simp [lineDisable, served, sub]

/-- Settles O15: a deferred disable sets its flag, and any other is the whole departure. -/
theorem disableDefersOrDeparts : Obligations.DisableDefersOrDeparts := by
  intro s n high h served
  rw [exec_lineDisable_of_high high]
  refine ⟨fun sub => ?_, fun sub queue active => ⟨(departed n .off .disabled s).answered 0x02 0x0200 0, ?_, ?_,
    fun m other => ?_, fun c idle out => ?_, fun c r p body onLine => ?_, fun c r body onLine => ?_,
    rfl, rfl, rfl, ?_, rfl⟩⟩
  · rw [takeCommand_withLine_accept h (lineDisable_of_frame (s := s.taken 0x02) served sub)]
    rfl
  · have fits : QueueFits (s.taken 0x02) n := (queueFits_of_laws queue active n).congr rfl rfl
    rw [takeCommand_withLine_accept h (lineDisable_of_not_frame (s := s.taken 0x02) served sub),
      departService_eq_departed fits]
    rfl
  · exact departed_line_same n .off .disabled s
  · exact departed_line_ne .off .disabled s other
  · refine (departed_ctx n .off .disabled s c).trans (failedContext_of_not_waitsFor _ ?_)
    cases body : (s.ctx c).body <;>
      simp [ContextBody.waitsFor, ContextBody.activeOn, ContextBody.queuedOn]
    · exact out _ body
    · exact idle _ _ body
  · have failed := departed_ctx n .off .disabled s c
    simp only [failedContext, body, onLine, if_true] at failed
    exact congrArg Context.body failed
  · have failed := departed_ctx n .off .disabled s c
    simp only [failedContext, body, onLine, if_true] at failed
    exact congrArg Context.body failed
  · show s.faults ++ departCauses s n .off = s.faults
    simp [departCauses]

end Sys2Proof.Machine
end

section
/-! PROOFS. The health counting as one state (R40, R41), and the recovery-limit expiry that counts into it (R39, R43).
-/

namespace Sys2Proof.Machine

/-! ## The health counting as a whole (R40, R41) -/

/-- A line with the failure count and the good run of a health counting. -/
def Line.withCounts (l : Line) (counts : Nat × Nat) : Line := { l with failures := counts.1, goodRun := counts.2 }

/-- The state after a health counting: the line with its counts; a change of state is reported, and a change to LOST is
the line's departure. -/
def healthCounted (n : LineNo) (health : LineState × Nat × Nat) (s : State) : State :=
  let counted := s.setLine n ((s.line n).withCounts health.2)
  if health.1 = (s.line n).state then counted
  else if health.1 = .lost then departService n .lost .failures counted
  else
    post (.lineState n health.1 (if health.1 = .run then .recovered else .degraded))
      (s.setLine n { (s.line n).withCounts health.2 with state := health.1 })

/-- A failure counted, as a whole. -/
theorem countFailure_eq {s : State} {n : LineNo} (running : (s.line n).running = true) :
    countFailure n s = healthCounted n (expectedHealth (s.line n) false) s := by
  obtain state | state := (running_iff _).mp running
  · by_cases reached : (s.line n).profile.degradeThreshold.toNat ≤ min 63 ((s.line n).failures + 1) <;>
      simp [countFailure, stateAfterFailure_eq, failed_eq, healthCounted, expectedHealth, state, reached,
        Line.withCounts, State.updLine]
  · by_cases reached : (s.line n).profile.lostThreshold.toNat ≤ min 63 ((s.line n).failures + 1) <;>
      simp [countFailure, stateAfterFailure_eq, failed_eq, healthCounted, expectedHealth, state, reached,
        Line.withCounts, State.updLine]

/-- A good frame counted, as a whole. -/
theorem countGood_eq {s : State} {n : LineNo} (running : (s.line n).running = true) :
    countGood n s = healthCounted n (expectedHealth (s.line n) true) s := by
  obtain state | state := (running_iff _).mp running
  · simp [countGood, healthCounted, expectedHealth, state, Line.withCounts, State.updLine]
  · by_cases recovered : (s.line n).profile.recoverCount.toNat ≤ (s.line n).goodRun + 1 <;>
      simp [countGood, healthCounted, expectedHealth, state, recovered, Line.withCounts, State.updLine]

/-- A sample counted, as a whole. -/
theorem countSample_eq {s : State} {n : LineNo} (status : SampleStatus) (running : (s.line n).running = true) :
    countSample n status s = healthCounted n (expectedHealth (s.line n) (status = .good)) s := by
  unfold countSample
  split
  · next good => simp [countGood_eq running, good]
  · next bad => simp [countFailure_eq running, bad]

/-- A health counting that leaves the state only writes the counts. -/
theorem healthCounted_of_same {s : State} {n : LineNo} {health : LineState × Nat × Nat}
    (same : health.1 = (s.line n).state) : healthCounted n health s = s.setLine n ((s.line n).withCounts health.2) :=
  if_pos same

/-- A health counting that leads to LOST is a departure with the counts advanced. -/
theorem healthCounted_of_lost {s : State} {n : LineNo} {health : LineState × Nat × Nat} (lost : health.1 = .lost)
    (served : (s.line n).state ≠ .lost) :
    healthCounted n health s = departService n .lost .failures (s.setLine n ((s.line n).withCounts health.2)) :=
  (if_neg fun same => served (same.symm.trans lost)).trans (if_pos lost)

/-- A health counting that changes the state in service reports it. -/
theorem healthCounted_of_changed {s : State} {n : LineNo} {health : LineState × Nat × Nat}
    (changed : health.1 ≠ (s.line n).state) (served : health.1 ≠ .lost) :
    healthCounted n health s =
      post (.lineState n health.1 (if health.1 = .run then .recovered else .degraded))
        (s.setLine n { (s.line n).withCounts health.2 with state := health.1 }) :=
  (if_neg changed).trans (if_neg served)

/-- The health after a failure below 63 of a line in RUN: degraded from the threshold on. -/
theorem expectedHealth_of_run_failure {l : Line} (state : l.state = .run) (bound : l.failures + 1 ≤ 63) :
    expectedHealth l false =
      (if l.profile.degradeThreshold.toNat ≤ l.failures + 1 then .degraded else .run, l.failures + 1, 0) := by
  simp [expectedHealth, state, Nat.min_eq_right bound]

/-- The health after a failure below 63 of a line in DEGRADED: lost from the threshold on. -/
theorem expectedHealth_of_degraded_failure {l : Line} (state : l.state = .degraded) (bound : l.failures + 1 ≤ 63) :
    expectedHealth l false =
      (if l.profile.lostThreshold.toNat ≤ l.failures + 1 then .lost else .degraded, l.failures + 1, 0) := by
  simp [expectedHealth, state, Nat.min_eq_right bound]

/-! ## The recovery limit (R39, R43) -/

/-- A line with a new wait begun behind the limit. -/
theorem newWait_eq {l : Line} {w : Nat} (h : l.waited = some w) :
    l.newWait = { l with waited := some (w - l.profile.recoveryLimit.toNat) } := by
  simp [Line.newWait, h]

/-- In PROBING an expiry counts as a probe frame that is not good. -/
theorem recoveryExpiry_of_probing {s : State} {n : LineNo} (state : (s.line n).state = .probing) :
    recoveryExpiry n s =
      probeTimeout n (s.setLine n
        { (s.line n).newWait with probeFrames := (s.line n).probeFrames + 1, goodRun := 0 }) := by
  simp only [recoveryExpiry, Line.newWait, state, State.updLine, setLine_setLine, setLine_line_same]

/-- The state in which an expiry of a line in RUN or DEGRADED counts its failure: the new wait begun, and NOT_READY
posted with the state after the failure. -/
def notReadyPosted (n : LineNo) (s : State) : State :=
  post (.notReady n (expectedHealth (s.line n) false).1) (s.setLine n (s.line n).newWait)

theorem notReadyPosted_line (n : LineNo) (s : State) : (notReadyPosted n s).line n = (s.line n).newWait :=
  setLine_line_same s n _

/-- A line written behind NOT_READY. -/
theorem notReadyPosted_setLine (n : LineNo) (s : State) (l : Line) :
    (notReadyPosted n s).setLine n l = (s.setLine n l).posted [.notReady n (expectedHealth (s.line n) false).1] :=
  calc (notReadyPosted n s).setLine n l
      = ((s.setLine n (s.line n).newWait).setLine n l).posted [.notReady n (expectedHealth (s.line n) false).1] := rfl
    _ = _ := by rw [setLine_setLine]

/-- In RUN and DEGRADED an expiry posts NOT_READY with the state after the failure, and counts the failure. -/
theorem recoveryExpiry_eq_countFailure {s : State} {n : LineNo} (running : (s.line n).running = true) :
    recoveryExpiry n s = countFailure n (notReadyPosted n s) := by
  have after : (s.line n).newWait.stateAfterFailure = (expectedHealth (s.line n) false).1 := by
    rw [stateAfterFailure_eq]; rfl
  rw [notReadyPosted, ← after]
  obtain state | state := (running_iff _).mp running <;>
    simp only [recoveryExpiry, State.updLine, setLine_line_same,
      show (s.line n).newWait.state = (s.line n).state from rfl, state]

/-- An expiry in RUN and DEGRADED, as a health counting. -/
theorem recoveryExpiry_of_running {s : State} {n : LineNo} (running : (s.line n).running = true) :
    recoveryExpiry n s = healthCounted n (expectedHealth (s.line n) false) (notReadyPosted n s) := by
  rw [recoveryExpiry_eq_countFailure running, countFailure_eq (by rw [notReadyPosted_line]; exact running),
    notReadyPosted_line]
  rfl

/-- PROBING below the limit of its probe frames goes on. -/
theorem probeTimeout_of_lt {s : State} {n : LineNo} (h : (s.line n).probeFrames < 255) : probeTimeout n s = s :=
  if_neg (Nat.not_le.mpr h)

/-- PROBING at the limit of its probe frames is LOST. -/
theorem probeTimeout_of_le {s : State} {n : LineNo} (h : 255 ≤ (s.line n).probeFrames) :
    probeTimeout n s = departService n .lost .probeTimeout s :=
  if_pos h

/-- What a departure to LOST of a state reached by work of the line gives the statements. -/
theorem departService_facts {s u : State} {n : LineNo} (d : Departure) (why : LineReason) {infos : List EventInfo}
    (work : LineWork n s u) (only : LineOnly n s u) (posts : Posts infos s u) (service : u.service = s.service)
    (queue : (u.line n).queue = (s.line n).queue) :
    let t := departService n d why u
    OnlyLine n s t ∧ t.cycle = s.cycle ∧ t.banks = s.banks ∧
      (∃ after,
        t.events.entries = postAll (infos ++ .lineState n d.state why :: after) s.cycle.number s.events.entries) ∧
      (QueueLaw s → ActiveLaw s → t = departed n d why u) := by
  intro t
  have whole := only.trans (departService_lineOnly n d why u)
  obtain ⟨after, first⟩ := departService_posts_first n d why u
  exact ⟨(work.trans (departService_lineWork n d why u)).only, whole.cycle, whole.banks, ⟨after, (posts.trans first).2⟩,
    fun q a => departService_eq_departed ((queueFits_of_laws q a n).congr queue service) d why⟩

/-- Settles O19: the expiry by the state of the line. -/
theorem recoveryLimitExpiryCounts : Obligations.RecoveryLimitExpiryCounts := by
  intro s n w high sub waited
  refine ⟨fun below => ?_, fun reached => ?_⟩
  · exact exec_of_untimely (by simp [timely, Line.limitReached, waited, sub, below])
  intro again
  have wait : (s.line n).newWait = again := newWait_eq waited
  have degradeBound := (s.line n).profile.degradeThreshold.isLt
  have lostBound := (s.line n).profile.lostThreshold.isLt
  rw [exec_recoveryLimitExpiry_of_reached high sub waited reached]
  have running (h : (s.line n).state = .run ∨ (s.line n).state = .degraded) :
      recoveryExpiry n s = healthCounted n (expectedHealth (s.line n) false) (notReadyPosted n s) :=
    recoveryExpiry_of_running ((running_iff _).mpr h)
  have line : (notReadyPosted n s).line n = again := (notReadyPosted_line n s).trans wait
  refine ⟨fun state few => ?_, fun state many => ?_, fun state few => ?_, fun state reaches => ?_,
    fun state few => ?_, fun state reaches => ?_⟩
  · rw [recoveryExpiry_of_probing state, probeTimeout_of_lt (by rwa [setLine_line_same]), wait]
  · rw [recoveryExpiry_of_probing state, probeTimeout_of_le (by rwa [setLine_line_same]), wait]
    obtain ⟨only, cycle, banks, ⟨after, entries⟩, whole⟩ := departService_facts (infos := []) .lost .probeTimeout
      (updLine_lineWork s (f := fun _ => { again with probeFrames := (s.line n).probeFrames + 1, goodRun := 0 }) rfl)
      (updLine_lineOnly n s _) (.none rfl rfl) rfl (by rw [updLine_line_same])
    exact ⟨_, after, rfl, by rw [departService_line]; rfl, only, cycle, banks, entries, whole⟩
  · have health := expectedHealth_of_run_failure state (by omega)
    rw [if_neg (by omega)] at health
    rw [running (.inl state), healthCounted_of_same (by rw [health, line]; exact state.symm), line,
      notReadyPosted_setLine, health]
    rfl
  · have health := expectedHealth_of_run_failure state (by omega)
    rw [if_pos (by omega)] at health
    rw [running (.inl state), healthCounted_of_changed (by simp [health, line, again, state]) (by simp [health]), line,
      notReadyPosted_setLine, health]
    rfl
  · have health := expectedHealth_of_degraded_failure state (by omega)
    rw [if_neg (by omega)] at health
    rw [running (.inr state), healthCounted_of_same (by rw [health, line]; exact state.symm), line,
      notReadyPosted_setLine, health]
    rfl
  · have health := expectedHealth_of_degraded_failure state (by omega)
    rw [if_pos (by omega)] at health
    rw [running (.inr state), healthCounted_of_lost (by rw [health]) (by simp [line, again, state]), line,
      notReadyPosted_setLine, health]
    obtain ⟨only, cycle, banks, ⟨after, entries⟩, whole⟩ := departService_facts .lost .failures
      ((updLine_lineWork s (f := fun _ => again.withCounts ((s.line n).failures + 1, 0)) rfl).trans
        (post_lineWork n (.notReady n .lost) _))
      ((updLine_lineOnly n s _).trans (post_lineOnly n _ _)) (post_posts (.notReady n .lost) (s.setLine n _)) rfl
      (by rw [post_line, updLine_line_same]; rfl)
    exact ⟨_, after, rfl, by rw [departService_line]; rfl,
      by
        rw [departService_line]
        exact congrArg Line.failures (setLine_line_same s n (again.withCounts ((s.line n).failures + 1, 0))),
      only, cycle, banks, entries, whole⟩

end Sys2Proof.Machine
end

section
/-! PROOFS. The probe frame end (R33 to R35) with its deferred disable (R31): the state in each way of judging the
frame, and the line. -/

namespace Sys2Proof.Machine

/-! ## The deferred disable as a whole (R31) -/

/-- With disable-pending set a deferred disable is a departure of the line with the flag cleared. -/
theorem deferredDisable_of_pending {n : LineNo} {s : State} (h : (s.line n).disablePending = true) :
    deferredDisable n s =
      departService n .off .disabled (s.setLine n { s.line n with disablePending := false }) :=
  if_pos h

/-- A line whose flag is cleared keeps its queue. -/
theorem QueueFits.clearPending {s : State} {n : LineNo} (h : QueueFits s n) :
    QueueFits (s.setLine n { s.line n with disablePending := false }) n :=
  h.congr (by rw [setLine_line_same]) rfl

/-- Under the laws of the queues a deferred disable is the whole state that the statements give it. -/
theorem deferredDisable_eq_afterDeferred {s : State} {n : LineNo}
    (h : (s.line n).disablePending = true → QueueFits s n) : deferredDisable n s = afterDeferred n s := by
  unfold afterDeferred
  split
  · next pending => rw [deferredDisable_of_pending pending, departService_eq_departed (h pending).clearPending]
  · next enabled => exact deferredDisable_of_not_pending (by simpa using enabled)

/-- Whatever the contexts hold, a deferred disable only posts. -/
theorem deferredDisable_posts_some (n : LineNo) (s : State) : ∃ infos, Posts infos s (deferredDisable n s) := by
  cases pending : (s.line n).disablePending with
  | true =>
    obtain ⟨after, posts⟩ := departService_posts_first n .off .disabled
      (s.setLine n { s.line n with disablePending := false })
    exact ⟨_, by rw [deferredDisable_of_pending pending]; exact posts⟩
  | false => exact ⟨[], by rw [deferredDisable_of_not_pending pending]; exact .refl s⟩

/-! ## The judgement of a probe frame (R34, R35) -/

/-- A good probe frame lengthens the run when its latency is close to that of the frame before, and begins a new run
otherwise. -/
theorem nextGoodRun_of_good (goodRun : Nat) (last : Option Nat) (l raw : Nat) {ew : ErrWrn} (reply : Slot)
    (h : ew.err = false) :
    nextGoodRun goodRun last (.checkOk l raw ew reply) =
      if 1 ≤ goodRun ∧ ∃ l', last = some l' ∧ l ≤ l' + 1 ∧ l' ≤ l + 1 then goodRun + 1 else 1 := by
  cases last <;> simp [nextGoodRun, goodProbe, h, latencyClose]

/-- A probe frame that is not good ends the run. -/
theorem nextGoodRun_of_not_good (goodRun : Nat) (last : Option Nat) {result : FrameResult}
    (h : ∀ l raw ew reply, result = .checkOk l raw ew reply → ew.err = true) :
    nextGoodRun goodRun last result = 0 := by
  cases result with
  | checkOk l raw ew reply => simp [nextGoodRun, goodProbe, h l raw ew reply rfl]
  | noAck => rfl
  | noStart => rfl
  | checkFail l => rfl

/-- A line in PROBING right after its frame end, the frame counted (R33). -/
def Line.probeEnded (l : Line) (result : FrameResult) : Line :=
  { expectedFrameEnd l result with probeFrames := l.probeFrames + 1 }

/-- The good run after a probe frame of a line. -/
abbrev Line.runAfter (l : Line) (result : FrameResult) : Nat := nextGoodRun l.goodRun l.lastLatency result

/-- A probe frame closed, counted and judged: its end but for a deferred disable. -/
def probeJudged (n : LineNo) (result : FrameResult) (s : State) : State :=
  judgeProbe n ((s.line n).runAfter result) result (s.setLine n ((s.line n).probeEnded result))

/-- A deferred disable is taken last. -/
theorem probeEnd_eq (n : LineNo) (result : FrameResult) (s : State) :
    probeEnd n result s = deferredDisable n (probeJudged n result s) := by
  simp only [probeEnd, State.updLine, endFrame_eq_expected]
  rfl

section ProbeJudged

variable {n : LineNo} {result : FrameResult} {s : State}

/-- The good run that reaches `probe_good` takes the line to RUN. -/
theorem probeJudged_of_run (h : (s.line n).profile.probeGood.toNat ≤ (s.line n).runAfter result) :
    probeJudged n result s =
      (s.setLine n { (s.line n).probeEnded result with
        state := .run, lMeas := result.latency.getD 0, failures := 0, goodRun := 0 }).posted
          [.lineState n .run .probed] := by
  rw [probeJudged, judgeProbe, if_pos (by rwa [setLine_line_same])]
  simp only [State.updLine, setLine_line_same, setLine_setLine]
  rfl

/-- A shorter run leaves its count, and the limit of the probe frames is looked at. -/
theorem probeJudged_of_short (short : (s.line n).runAfter result < (s.line n).profile.probeGood.toNat) :
    probeJudged n result s =
      probeTimeout n (s.setLine n { (s.line n).probeEnded result with goodRun := (s.line n).runAfter result }) := by
  have notReached : ¬(s.line n).profile.probeGood.toNat ≤ (s.line n).runAfter result := Nat.not_le.mpr short
  rw [probeJudged, judgeProbe, if_neg (by rwa [setLine_line_same])]
  simp only [State.updLine, setLine_line_same, setLine_setLine]

/-- A shorter run of a line below the limit of its probe frames goes on. -/
theorem probeJudged_of_stay (short : (s.line n).runAfter result < (s.line n).profile.probeGood.toNat)
    (few : (s.line n).probeFrames + 1 < 255) :
    probeJudged n result s =
      s.setLine n { (s.line n).probeEnded result with goodRun := (s.line n).runAfter result } := by
  rw [probeJudged_of_short short]
  exact probeTimeout_of_lt (by rw [setLine_line_same]; exact few)

/-- A shorter run of a line at the limit of its probe frames is its departure to LOST. -/
theorem probeJudged_of_timeout (short : (s.line n).runAfter result < (s.line n).profile.probeGood.toNat)
    (many : 255 ≤ (s.line n).probeFrames + 1) :
    probeJudged n result s =
      departService n .lost .probeTimeout
        (s.setLine n { (s.line n).probeEnded result with goodRun := (s.line n).runAfter result }) := by
  rw [probeJudged_of_short short]
  exact probeTimeout_of_le (by rw [setLine_line_same]; exact many)

end ProbeJudged

/-- The dispatch runs the end of the probe frame in flight. -/
theorem exec_probeFrameEnd {s : State} {n : LineNo} {f : Frame} (samples : List Bool) (h : ProbeFrame s n f) :
    exec (.probeFrameEnd n samples) s = .next (probeEnd n (judgeFrame f samples) s) := by
  obtain ⟨high, state, sub, frame⟩ := h
  simp [exec, execProbeFrameEnd, whileRunning, high, state, Line.frameInFlight, sub, frame]

/-! ## The line after a probe frame end (R33) -/

/-- What a line `k` in service or after its departure has in common with line `l` right after its probe frame end. -/
def ProbedAs (l : Line) (result : FrameResult) (k : Line) : Prop :=
  k = { l.probeEnded result with
    state := k.state, failures := k.failures, goodRun := k.goodRun, lMeas := k.lMeas, disablePending := k.disablePending
    sub := if k.state.inService then .recovery else .none
    waited := if k.state.inService then some 0 else none
    link := { frame := none, da := false, watch := if k.state.inService then .disregarding 2 else .none }
    pos := { l.pos with preset := if k.state.inService then l.pos.preset else none }
    queue := if k.state.inService then l.queue else []
    abortOwed := if k.state.inService then l.abortOwed else false }

theorem ProbedAs.left {l k : Line} {result : FrameResult} (h : ProbedAs l result k) (d : Departure) :
    ProbedAs l result (k.left d) := by
  unfold ProbedAs Line.left
  rw [h]
  cases d <;> rfl

theorem ProbedAs.deferred {l k : Line} {result : FrameResult} (h : ProbedAs l result k) :
    ProbedAs l result k.deferred := by
  unfold Line.deferred
  split
  · refine ProbedAs.left ?_ .off
    unfold ProbedAs
    rw [h]
  · exact h

/-- A line in service after its probe frame end, with its counts. -/
theorem probedAs_of_inService (l : Line) (result : FrameResult) {state : LineState} (served : state.inService = true)
    (failures goodRun lMeas : Nat) :
    ProbedAs l result { l.probeEnded result with
      state := state, failures := failures, goodRun := goodRun, lMeas := lMeas } := by
  simp [ProbedAs, served, Line.probeEnded, expectedFrameEnd]

section ProbeEnd

variable {s : State} {n : LineNo} {result : FrameResult}

/-- A probe frame judged leaves the line in service with its contexts as they were, or LOST. -/
theorem probeJudged_probed (probing : (s.line n).state = .probing) :
    ProbedAs (s.line n) result ((probeJudged n result s).line n) ∧
      (((probeJudged n result s).line n).state.inService = true → (probeJudged n result s).service = s.service) := by
  have kept : ProbedAs (s.line n) result
      { (s.line n).probeEnded result with goodRun := (s.line n).runAfter result } :=
    probedAs_of_inService (s.line n) result (state := (s.line n).state) (by simp [probing, LineState.inService]) _ _ _
  obtain short | good := Nat.lt_or_ge ((s.line n).runAfter result) (s.line n).profile.probeGood.toNat
  · obtain few | many := Nat.lt_or_ge ((s.line n).probeFrames + 1) 255
    · rw [probeJudged_of_stay short few, setLine_line_same]
      exact ⟨kept, fun _ => rfl⟩
    · rw [probeJudged_of_timeout short many, departService_line, setLine_line_same]
      exact ⟨kept.left .lost, fun served => absurd served (by simp [Departure.state, LineState.inService])⟩
  · rw [probeJudged_of_run good]
    refine ⟨?_, fun _ => rfl⟩
    show ProbedAs _ _ ((s.setLine n _).line n)
    rw [setLine_line_same]
    exact probedAs_of_inService _ _ rfl _ _ _

theorem probeEnd_line (n : LineNo) (result : FrameResult) (s : State) :
    (probeEnd n result s).line n = ((probeJudged n result s).line n).deferred := by
  rw [probeEnd_eq, deferredDisable_line]

/-- A line that stays in service after its probe frame end keeps its contexts. -/
theorem probeEnd_service (probing : (s.line n).state = .probing)
    (served : ((probeEnd n result s).line n).state.inService = true) : (probeEnd n result s).service = s.service := by
  rw [probeEnd_line, deferred_state] at served
  rw [probeEnd_eq]
  split at served
  · exact absurd served (by simp [LineState.inService])
  · next enabled =>
    rw [deferredDisable_of_not_pending (by simpa using enabled)]
    exact (probeJudged_probed probing).2 served

theorem judgeProbe_lineWork (n : LineNo) (goodRun : Nat) (result : FrameResult) (s : State) :
    LineWork n s (judgeProbe n goodRun result s) := by
  unfold judgeProbe probeTimeout
  split
  · exact (updLine_lineWork s rfl).trans (post_lineWork n _ _)
  · split
    · exact (updLine_lineWork s rfl).trans (departService_lineWork n _ _ _)
    · exact updLine_lineWork s rfl

theorem probeEnd_lineWork (n : LineNo) (result : FrameResult) (s : State) : LineWork n s (probeEnd n result s) := by
  rw [probeEnd_eq]
  exact ((updLine_lineWork s (f := fun l => l.probeEnded result) rfl).trans (judgeProbe_lineWork n _ _ _)).trans
    (deferredDisable_lineWork n _)

end ProbeEnd

/-- Settles O20: the line of a probe frame end by `ProbedAs`, and the frame of one line's work. -/
theorem probeFrameEndIsCounted : Obligations.ProbeFrameEndIsCounted := by
  intro s n f samples frame
  have ⟨_, probing, _, _⟩ := frame
  have probed : ProbedAs (s.line n) (judgeFrame f samples) ((probeEnd n (judgeFrame f samples) s).line n) := by
    rw [probeEnd_line]; exact (probeJudged_probed probing).1.deferred
  have line : _ = _ := probed
  have only := probeEnd_lineOnly n (judgeFrame f samples) s
  exact ⟨_, exec_probeFrameEnd samples frame, congrArg Line.probeFrames line, congrArg Line.lastOutcome line,
    congrArg Line.lastLatency line, congrArg Line.lastErrWrn line, congrArg Line.sub line,
    congrArg (fun l => l.link.frame) line, (congrArg Line.ring line :), (congrArg Line.profile line :),
    (congrArg Line.slot line :), congrArg Line.pos line,
    fun served => ⟨(congrArg Line.queue line).trans (if_pos served),
      (congrArg Line.abortOwed line).trans (if_pos served), probeEnd_service probing served⟩,
    only.banks, only.cycle, (probeEnd_lineWork n _ s).only⟩

/-- A probe frame end at the limit of the probe frames, without RUN: the departure to LOST, and a deferred disable
behind it (R31, R35). -/
theorem probeEnd_of_timeout {s : State} {n : LineNo} {result : FrameResult}
    (short : (s.line n).runAfter result < (s.line n).profile.probeGood.toNat)
    (many : 255 ≤ (s.line n).probeFrames + 1) :
    ∃ after, ((probeEnd n result s).line n).state = (if (s.line n).disablePending then .off else .lost) ∧
      (probeEnd n result s).events.entries =
        postAll (.lineState n .lost .probeTimeout :: after) s.cycle.number s.events.entries ∧
      (QueueLaw s → ActiveLaw s →
        probeEnd n result s = afterDeferred n (departed n .lost .probeTimeout
          (s.setLine n { (s.line n).probeEnded result with goodRun := (s.line n).runAfter result }))) := by
  have judged := probeJudged_of_timeout short many
  obtain ⟨after, departs⟩ := departService_posts_first n .lost .probeTimeout
    (s.setLine n { (s.line n).probeEnded result with goodRun := (s.line n).runAfter result })
  obtain ⟨more, deferred⟩ := deferredDisable_posts_some n (probeJudged n result s)
  rw [← judged] at departs
  have posts : Posts _ s _ := Posts.trans departs deferred
  refine ⟨after ++ more, ?_, by rw [probeEnd_eq]; exact posts.2, fun queue active => ?_⟩
  · rw [probeEnd_line, deferred_state, judged, departService_line, setLine_line_same]
    rfl
  · have fits := (queueFits_of_laws queue active n).congr (t := s.setLine n
      { (s.line n).probeEnded result with goodRun := (s.line n).runAfter result }) (by rw [setLine_line_same]; rfl) rfl
    rw [probeEnd_eq, judged, departService_eq_departed fits,
      deferredDisable_eq_afterDeferred fun _ => departed_fits n _ _ _]

/-- A probe frame end that leaves the line in service, written as its line and its events. -/
theorem probeEnd_of_served {s : State} {n : LineNo} {result : FrameResult} {l : Line} {infos : List EventInfo}
    (judged : probeJudged n result s = (s.setLine n l).posted infos)
    (pending : l.disablePending = (s.line n).disablePending)
    (queue : l.queue = (s.line n).queue)
    (laws : (s.line n).disablePending = true → QueueLaw s ∧ ActiveLaw s) :
    probeEnd n result s = afterDeferred n ((s.setLine n l).posted infos) := by
  have line : ((s.setLine n l).posted infos).line n = l := setLine_line_same s n l
  rw [probeEnd_eq, judged, deferredDisable_eq_afterDeferred]
  rw [line, pending]
  intro set
  obtain ⟨queueLaw, activeLaw⟩ := laws set
  exact (queueFits_of_laws queueLaw activeLaw n).congr (by rw [line, queue]) rfl

/-- Settles O21: the good run by `nextGoodRun`, and what follows from it by the three ways in which a frame is
judged. -/
theorem goodRunReachesRun : Obligations.GoodRunReachesRun := by
  intro s n f samples frame laws positive result ended
  have run := exec_probeFrameEnd samples frame
  have short_of_bad : (∀ l raw ew reply, result = .checkOk l raw ew reply → ew.err = true) →
      (s.line n).runAfter result = 0 := nextGoodRun_of_not_good _ _
  have stays (short : (s.line n).runAfter result < (s.line n).profile.probeGood.toNat)
      (few : (s.line n).probeFrames + 1 < 255) :
      exec (.probeFrameEnd n samples) s =
        .next (afterDeferred n (s.setLine n { ended with goodRun := (s.line n).runAfter result })) :=
    run.trans (congrArg _ (probeEnd_of_served (infos := []) (probeJudged_of_stay short few) rfl rfl laws))
  have timesOut (short : (s.line n).runAfter result < (s.line n).profile.probeGood.toNat)
      (many : 255 ≤ (s.line n).probeFrames + 1) := probeEnd_of_timeout short many
  refine ⟨fun l raw ew reply goodRun ok noErr counted => ?_, fun bad => ?_⟩
  · have after : (s.line n).runAfter result = goodRun := by
      rw [counted, ok]; exact nextGoodRun_of_good _ _ l raw reply noErr
    rw [← after]
    refine ⟨fun good => ?_, stays, fun short many => ?_⟩
    · have latency : result.latency.getD 0 = l := by rw [ok]; rfl
      rw [← latency]
      exact run.trans (congrArg _ (probeEnd_of_served (probeJudged_of_run good) rfl rfl laws))
    · obtain ⟨after, facts⟩ := timesOut short many
      exact ⟨_, after, run, facts⟩
  · have after := short_of_bad bad
    rw [after] at stays timesOut
    refine ⟨stays positive, fun many => ?_⟩
    obtain ⟨after, facts⟩ := timesOut positive many
    exact ⟨_, after, run, facts⟩

end Sys2Proof.Machine
end

section
/-! PROOFS. The line controllers' law (R23, R24): what it reads of a line, and that the work of a line and the cycle
start keep it. -/

namespace Sys2Proof.Machine

/-! ## What the law reads of a line -/

/-- The bounds of a valid profile that the counts of a line rest on (R27). -/
theorem bounds_of_valid {p : Profile} (h : firstFailingCheck p = none) :
    4 ≤ p.probeGood.toNat ∧ 1 ≤ p.degradeThreshold.toNat ∧ p.degradeThreshold.toNat < p.lostThreshold.toNat ∧
      1 ≤ p.recoverCount.toNat := by
  have check := (firstFailingCheck_eq_none p).mp h
  exact ⟨(check 7 (by decide) (by decide)).1, (check 8 (by decide) (by decide)).1, check 10 (by decide) (by decide),
    (check 11 (by decide) (by decide)).1⟩

/-- Line `k` agrees with line `l` in all that the line controller's law reads. -/
def LawSame (l k : Line) : Prop :=
  k = { l with
    lMeas := k.lMeas, lastOutcome := k.lastOutcome, lastLatency := k.lastLatency, lastErrWrn := k.lastErrWrn
    writeIgnored := k.writeIgnored, pos := { k.pos with preset := l.pos.preset }, ring := k.ring, queue := k.queue
    abortOwed := k.abortOwed, slot := k.slot }

theorem LawSame.law {l k : Line} (h : LawSame l k) (law : l.Law) : k.Law := by
  rw [h]; exact law

theorem LawSame.state {l k : Line} (h : LawSame l k) : k.state = l.state := by rw [h]

theorem LawSame.sub {l k : Line} (h : LawSame l k) : k.sub = l.sub := by rw [h]

theorem ServiceOnly.lawSame {n : LineNo} {s t : State} (h : ServiceOnly n s t) (m : LineNo) :
    LawSame (s.line m) (t.line m) := by
  by_cases here : m = n
  · subst here; unfold LawSame; rw [h.same]
  · rw [h.others m here]; rfl

/-- States whose lines agree in what the law reads keep the law. -/
theorem lineLaw_of_same {s t : State} (same : ∀ m, LawSame (s.line m) (t.line m)) (law : LineLaw s) : LineLaw t :=
  fun m => (same m).law (law m)

/-- States with the same lines keep the law. -/
theorem lineLaw_congr {s t : State} (same : ∀ m, t.line m = s.line m) (law : LineLaw s) : LineLaw t := fun m => by
  rw [same]; exact law m

/-- The law does not read the cycle unit. -/
theorem lineLaw_of_cycle {s : State} (law : LineLaw s) (cycle : CycleUnit) : LineLaw { s with cycle := cycle } := law

/-- Work of one line keeps the law when that line meets it at the end. -/
theorem lineLaw_of_lineOnly {n : LineNo} {s t : State} (only : LineOnly n s t) (law : LineLaw s)
    (line : (t.line n).Law) : LineLaw t := fun m => by
  by_cases here : m = n
  · rwa [here]
  · rw [only.others m here]; exact law m

/-- A line replaced by one that meets the law. -/
theorem setLine_lineLaw {n : LineNo} {s : State} {l : Line} (law : LineLaw s) (line : l.Law) :
    LineLaw (s.setLine n l) :=
  lineLaw_of_lineOnly (updLine_lineOnly n s fun _ => l) law (by rwa [setLine_line_same])

/-! ## The operations of a line keep its law -/

section LineLaw

variable {l : Line}

/-- A line in service may hold any position unit. -/
theorem law_of_pos (law : l.Law) (served : l.state.inService = true) (pos : PositionUnit) :
    Line.Law { l with pos := pos } := by
  obtain ⟨run, degraded, probing, -, rest⟩ := law
  exact ⟨run, degraded, probing, fun out => absurd (served.symm.trans out) (by decide), rest⟩

/-- A line that has no frame in flight waits for no deferred disable. -/
theorem not_pending_of_law (law : l.Law) (closed : l.sub ≠ .frame) : l.disablePending = false := by
  obtain ⟨-, -, -, -, -, -, -, disable, -, -⟩ := law
  exact Bool.eq_false_iff.mpr fun pending => closed (disable pending)

/-- A disable of a line in FRAME is deferred (R30). -/
theorem law_pending (law : l.Law) (sub : l.sub = .frame) : Line.Law { l with disablePending := true } := by
  obtain ⟨run, degraded, probing, out, served, frame, wait, -, rest⟩ := law
  exact ⟨run, degraded, probing, out, served, frame, wait, fun _ => sub, rest⟩

/-- A line that is not in FRAME has no frame. -/
theorem no_frame_of_law (law : l.Law) (closed : l.sub ≠ .frame) : l.link.frame = none := by
  obtain ⟨-, -, -, -, -, frame, -, -, -, -⟩ := law
  exact Option.isNone_iff_eq_none.mp (by simpa using mt frame.mpr closed)

/-- A line that is not in RECOVERY has no wait. -/
theorem no_wait_of_law (law : l.Law) (settled : l.sub ≠ .recovery) : l.waited = none := by
  obtain ⟨-, -, -, -, -, -, wait, -, -, -⟩ := law
  exact Option.isNone_iff_eq_none.mp (by simpa using mt wait.mpr settled)

/-- A line that asks for a frame (R4). -/
theorem law_startFrame (law : l.Law) (served : l.state.inService = true) (settled : l.sub ≠ .recovery) (slot : Slot)
    (deadline : Nat) : (l.startFrame slot deadline).Law := by
  have unwaited := no_wait_of_law law settled
  obtain ⟨run, degraded, probing, -, -, -, -, -, valid, -⟩ := law
  refine ⟨run, degraded, probing, fun out => absurd (served.symm.trans out) (by decide), ?_, ?_, ?_, fun _ => rfl,
    valid, ?_⟩
  · simp [Line.startFrame]
  · simp [Line.startFrame]
  · simp [Line.startFrame, unwaited]
  · simp [Line.startFrame]

/-- A line whose recovery ends (R13, R24). -/
theorem law_becomeReady (law : l.Law) (recovers : l.sub = .recovery) : l.becomeReady.Law := by
  have closed : l.sub ≠ .frame := by simp [recovers]
  have frameless := no_frame_of_law law closed
  have enabled := not_pending_of_law law closed
  obtain ⟨run, degraded, probing, out, served, frame, wait, disable, valid, latched⟩ := law
  have served : l.state.inService = true := by
    by_contra away
    simp [recovers] at out
    exact away out
  have ready : Line.Law { l with
      sub := .ready, waited := none, link := { l.link with watch := .none, da := true } } := by
    refine ⟨run, degraded, probing, fun away => absurd (served.symm.trans away) (by decide), ?_, ?_, ?_, ?_, valid,
      latched⟩
    · simp
    · simp [frameless]
    · simp
    · simp [enabled]
  unfold Line.becomeReady
  split
  · exact law_startFrame ready served (by simp) _ _
  · exact ready

/-- A line out of service that enters PROBING with a valid profile (R29). -/
theorem law_enterProbing (law : l.Law) (away : l.state.inService = false) (valid : firstFailingCheck l.profile = none)
    (da : Bool) : (expectedProbingLine l da).Law := by
  obtain ⟨-, -, -, out, -⟩ := id law
  obtain ⟨sub, -, -⟩ := out away
  have frameless := no_frame_of_law law (by simp [sub])
  obtain ⟨probeGood, -⟩ := bounds_of_valid valid
  cases da <;>
    simp [Line.Law, expectedProbingLine, expectedProbeFrame, LineState.inService, Config.probeLimit, frameless, valid]
  all_goals omega

/-- A line with no frame in flight waits for no deferred disable. -/
theorem not_pending_of_no_frame (law : l.Law) (closed : l.link.frame = none) : l.disablePending = false := by
  refine not_pending_of_law law fun sub => ?_
  obtain ⟨-, -, -, -, -, frame, -, -, -, -⟩ := law
  simp [closed, sub] at frame

/-- A line with no frame in flight that leaves service, whatever its counts (R32). -/
theorem law_left (closed : l.link.frame = none) (enabled : l.disablePending = false)
    (valid : firstFailingCheck l.profile = none) (d : Departure) : (l.left d).Law := by
  cases d <;> simp [Line.Law, Line.left, Departure.state, LineState.inService, closed, enabled, valid]

/-- A profile word written to a line (R26). -/
theorem law_writeProfile (law : l.Law) (k : Fin 5) (w : Word) : (l.writeProfile k w).Law := by
  unfold Line.writeProfile
  split
  · next off =>
    have ⟨_, _, _, out, _⟩ := law
    obtain ⟨sub, watch, preset⟩ := out (by simp [off, LineState.inService])
    have frameless := no_frame_of_law law (by simp [sub])
    have unwaited := no_wait_of_law law (by simp [sub])
    have enabled := not_pending_of_law law (by simp [sub])
    simp [Line.Law, off, LineState.inService, sub, watch, preset, frameless, unwaited, enabled, PositionUnit.clear]
  · exact law

/-- A µs of a line (R13, R39). -/
theorem law_tick (law : l.Law) : l.tick.Law := by
  obtain ⟨run, degraded, probing, out, served, frame, wait, disable, valid, latched⟩ := law
  refine ⟨run, degraded, probing, fun away => ?_, served, frame, ?_, disable, valid, latched⟩
  · obtain ⟨sub, watch, preset⟩ := out away
    exact ⟨sub, by simp [Line.tick, watch, Watch.tick], preset⟩
  · simpa [Line.tick] using wait

/-- A line whose recovery wait begins anew (R39). -/
theorem law_newWait (law : l.Law) : l.newWait.Law := by
  obtain ⟨run, degraded, probing, out, served, frame, wait, rest⟩ := law
  exact ⟨run, degraded, probing, out, served, frame, by simpa [Line.newWait] using wait, rest⟩

/-- A line in service whose frame has ended, without its deferred disable (R13, R24). -/
theorem law_frameEnd (law : l.Law) (served : l.state.inService = true) (result : FrameResult) :
    Line.Law { expectedFrameEnd l result with disablePending := false } := by
  obtain ⟨run, degraded, probing, -, -, -, -, -, valid, -⟩ := law
  refine ⟨run, degraded, probing, fun away => absurd (served.symm.trans away) (by decide), ?_, ?_, ?_, ?_, valid, ?_⟩
  all_goals simp [expectedFrameEnd]

/-- A line with no frame in flight whose deferred disable is taken (R31). -/
theorem law_deferred (law : Line.Law { l with disablePending := false }) (closed : l.link.frame = none)
    (valid : firstFailingCheck l.profile = none) : l.deferred.Law := by
  unfold Line.deferred
  split
  · exact law_left (l := { l with disablePending := false }) closed rfl valid .off
  · next enabled =>
    have same : { l with disablePending := false } = l := by simp [← Bool.eq_false_iff.mpr enabled]
    rwa [same] at law

/-- A line in service with a state and counts that fit its thresholds. -/
theorem law_withHealth (law : l.Law) (served : l.state.inService = true) {state : LineState} {failures goodRun : Nat}
    (running : state = .run ∨ state = .degraded)
    (run : state = .run → failures < l.profile.degradeThreshold.toNat ∧ goodRun = 0)
    (degraded : state = .degraded →
      failures < l.profile.lostThreshold.toNat ∧ goodRun < l.profile.recoverCount.toNat) :
    Line.Law { l with state := state, failures := failures, goodRun := goodRun } := by
  obtain ⟨-, -, -, -, sub, frame, wait, disable, valid, latched⟩ := law
  have stays : state.inService = true := by obtain rfl | rfl := running <;> rfl
  refine ⟨run, degraded, ?_, fun away => absurd (stays.symm.trans away) (by decide), fun _ => sub served, frame, wait,
    disable, fun _ => valid ?_, latched⟩
  · obtain rfl | rfl := running <;> simp
  · rintro off; simp [off, LineState.inService] at served

/-- The profile of a line in RUN or DEGRADED is valid. -/
theorem valid_of_running (law : l.Law) (running : l.running = true) : firstFailingCheck l.profile = none := by
  obtain ⟨-, -, -, -, -, -, -, -, valid, -⟩ := law
  exact valid (by obtain state | state := (running_iff l).mp running <;> simp [state])

/-- A health counting stays below the thresholds of the state that it leads to (R40, R41). -/
theorem expectedHealth_fits (law : l.Law) (running : l.running = true) (good : Bool) :
    let health := expectedHealth l good
    (health.1 = .run → health.2.1 < l.profile.degradeThreshold.toNat ∧ health.2.2 = 0) ∧
      (health.1 = .degraded →
        health.2.1 < l.profile.lostThreshold.toNat ∧ health.2.2 < l.profile.recoverCount.toNat) := by
  obtain ⟨-, degradeOne, order, recoverOne⟩ := bounds_of_valid (valid_of_running law running)
  obtain ⟨run, degraded, -⟩ := law
  obtain state | state := (running_iff l).mp running
  · obtain ⟨few, -⟩ := run state
    cases good with
    | true => simp [expectedHealth, state]; omega
    | false =>
      by_cases reached : l.profile.degradeThreshold.toNat ≤ min 63 (l.failures + 1)
      · simp only [expectedHealth, state, if_pos reached]; simp; omega
      · simp only [expectedHealth, state, if_neg reached]; simp; omega
  · obtain ⟨few, short⟩ := degraded state
    cases good with
    | true =>
      by_cases recovered : l.profile.recoverCount.toNat ≤ l.goodRun + 1
      · simp only [expectedHealth, state, if_pos recovered]; simp; omega
      · simp only [expectedHealth, state, if_neg recovered]; simp; omega
    | false =>
      by_cases reached : l.profile.lostThreshold.toNat ≤ min 63 (l.failures + 1)
      · simp only [expectedHealth, state, if_pos reached]; simp
      · simp only [expectedHealth, state, if_neg reached]; simp; omega

/-- The health counting of a running line with no frame in flight (R40, R41). -/
theorem law_counted (law : l.Law) (running : l.running = true) (closed : l.link.frame = none) (good : Bool) :
    (l.counted good).Law := by
  obtain ⟨run, degraded⟩ := expectedHealth_fits law running good
  have served := inService_of_running running
  have valid := valid_of_running law running
  have enabled := not_pending_of_no_frame law closed
  simp only [Line.counted]
  split
  · exact law_left (l := { l with
      state := (expectedHealth l good).1, failures := (expectedHealth l good).2.1
      goodRun := (expectedHealth l good).2.2 })
      closed enabled valid .lost
  · next stays =>
    have state : (expectedHealth l good).1 = .run ∨ (expectedHealth l good).1 = .degraded := by
      obtain state | state | state := expectedHealth_cases good running
      · exact .inl state
      · exact .inr state
      · exact absurd state stays
    exact law_withHealth law served state run degraded

/-- The health counting neither reads nor writes disable-pending. -/
theorem counted_of_enabled (l : Line) (good : Bool) :
    Line.counted { l with disablePending := false } good = { l.counted good with disablePending := false } := by
  have health : expectedHealth { l with disablePending := false } good = expectedHealth l good := rfl
  simp only [Line.counted, health]
  split <;> rfl

/-- A running line with no frame in flight, its health counted and its record in the ring. -/
theorem law_recorded (law : Line.Law { l with disablePending := false }) (running : l.running = true)
    (closed : l.link.frame = none) (good : Bool) (ring : Ring) :
    Line.Law { l.counted good with ring := ring, disablePending := false } := by
  have counted := law_counted law running closed good
  rw [counted_of_enabled] at counted
  exact counted

/-- A line in PROBING whose probe frame is counted below the limit. -/
theorem law_probeCounted (law : l.Law) (probing : l.state = .probing) {goodRun probeFrames : Nat}
    (short : goodRun < l.profile.probeGood.toNat) (few : probeFrames < 255) :
    Line.Law { l with goodRun := goodRun, probeFrames := probeFrames } := by
  obtain ⟨-, -, counts, out, served, frame, wait, disable, valid, latched⟩ := law
  obtain ⟨failures, -, -⟩ := counts probing
  exact ⟨by simp [probing], by simp [probing], fun _ => ⟨failures, short, few⟩, out, served, frame, wait, disable,
    valid, latched⟩

/-- A line in PROBING that reaches RUN (R34). -/
theorem law_probed (law : l.Law) (probing : l.state = .probing) (lMeas probeFrames : Nat) :
    Line.Law { l with state := .run, lMeas := lMeas, failures := 0, goodRun := 0, probeFrames := probeFrames } := by
  obtain ⟨-, -, -, -, served, frame, wait, disable, valid, latched⟩ := law
  have valid := valid (by simp [probing])
  obtain ⟨-, degradeOne, -, -⟩ := bounds_of_valid valid
  exact ⟨fun _ => ⟨degradeOne, rfl⟩, by simp, by simp, by simp [LineState.inService],
    fun _ => served (by simp [probing, LineState.inService]), frame, wait, disable, fun _ => valid, latched⟩

/-- A reset line meets the law, whatever level of DA it keeps. -/
theorem law_reset (da : Bool) : Line.Law { Line.reset with link := { Line.reset.link with da := da } } := by
  simp [Line.Law, Line.reset, LineState.inService, PositionUnit.reset]

end LineLaw

/-! ## The work of a line keeps the law -/

section Work

variable {s : State} {n : LineNo}

/-- The valid profile of a line that is not OFF (R27). -/
theorem LineLaw.valid (law : LineLaw s) (on : (s.line n).state ≠ .off) :
    firstFailingCheck (s.line n).profile = none := by
  obtain ⟨-, -, -, -, -, -, -, -, valid, -⟩ := law n
  exact valid on

/-- A departure of a line with no frame in flight. -/
theorem departService_lineLaw (law : LineLaw s) (closed : (s.line n).sub ≠ .frame) (on : (s.line n).state ≠ .off)
    (d : Departure) (why : LineReason) : LineLaw (departService n d why s) := by
  refine lineLaw_of_lineOnly (departService_lineOnly n d why s) law ?_
  rw [departService_line]
  exact law_left (no_frame_of_law (law n) closed) (not_pending_of_law (law n) closed) (law.valid on) d

/-- The line with its frame ended, served and counted, without its deferred disable. -/
theorem law_frameWork (law : LineLaw s) (running : (s.line n).running = true) (result : FrameResult) :
    Line.Law { (frameWork n result s).line n with disablePending := false } := by
  have served := inService_of_running running
  have same : LawSame { expectedFrameEnd (s.line n) result with disablePending := false, pos := posAfter s n result }
      { (frameWork n result s).line n with disablePending := false } := by
    rw [frameWork_line]; rfl
  exact same.law (law_of_pos (law_frameEnd (law n) served result) served _)

/-- The line with its frame recorded, without its deferred disable. -/
theorem law_frameRecord (law : LineLaw s) (running : (s.line n).running = true) (result : FrameResult) :
    Line.Law { (frameRecord n result s).line n with disablePending := false } := by
  have work := law_frameWork law running result
  have still := frameWork_running result running
  have closed : ((frameWork n result s).line n).link.frame = none := by rw [frameWork_line]; rfl
  rw [frameRecord_line running]
  generalize (frameWork n result s).line n = l at work still closed
  exact law_recorded work still closed _ _

/-- The end of a running frame. -/
theorem runningEnd_lineLaw (law : LineLaw s) (running : (s.line n).running = true) (result : FrameResult) :
    LineLaw (runningEnd n result s) := by
  have valid := valid_of_running (law n) running
  have ended : EndedAs _ _ _ := frameRecord_endedAs (result := result) running
  have closed : ((frameRecord n result s).line n).link.frame = none := by rw [ended]
  have profile : ((frameRecord n result s).line n).profile = (s.line n).profile := by rw [ended]; rfl
  intro m
  by_cases here : m = n
  · rw [here, runningEnd_line]
    exact law_deferred (law_frameRecord law running result) closed (profile ▸ valid)
  · obtain ⟨others, -⟩ := (runningEnd_lineWork n result s).only
    rw [others m here]
    exact law m

/-- The end of a probe frame. -/
theorem probeEnd_lineLaw (law : LineLaw s) (probing : (s.line n).state = .probing) (result : FrameResult) :
    LineLaw (probeEnd n result s) := by
  refine lineLaw_of_lineOnly (probeEnd_lineOnly n result s) law ?_
  have probed : ProbedAs _ _ _ := (probeJudged_probed (result := result) probing).1
  have closed : ((probeJudged n result s).line n).link.frame = none := by rw [probed]
  have profile : ((probeJudged n result s).line n).profile = (s.line n).profile := by rw [probed]; rfl
  have valid := LineLaw.valid law (n := n) (by simp [probing])
  have ended := law_frameEnd (law n) (by simp [probing, LineState.inService]) result
  rw [probeEnd_line]
  refine law_deferred ?_ closed (profile ▸ valid)
  obtain short | good := Nat.lt_or_ge ((s.line n).runAfter result) (s.line n).profile.probeGood.toNat
  · obtain few | many := Nat.lt_or_ge ((s.line n).probeFrames + 1) 255
    · rw [probeJudged_of_stay short few, setLine_line_same]
      exact law_probeCounted ended probing short few
    · rw [probeJudged_of_timeout short many, departService_line, setLine_line_same]
      exact law_left (l := { (s.line n).probeEnded result with
        goodRun := (s.line n).runAfter result, disablePending := false }) rfl rfl valid .lost
  · rw [probeJudged_of_run good]
    exact (setLine_line_same s n _) ▸ law_probed ended probing _ _

/-- In OFF and LOST an expiry only begins a new wait. -/
theorem recoveryExpiry_of_other (idle : ¬(s.line n).running = true) (settled : (s.line n).state ≠ .probing) :
    recoveryExpiry n s = s.updLine n (·.newWait) := by
  have state : ((s.updLine n (·.newWait)).line n).state = (s.line n).state := by rw [updLine_line_same]; rfl
  cases h : (s.line n).state <;> simp only [recoveryExpiry, state, h]
  all_goals simp [Line.running, h] at idle settled

/-- A recovery-limit expiry. -/
theorem recoveryExpiry_lineLaw (law : LineLaw s) (reached : (s.line n).limitReached = true) :
    LineLaw (recoveryExpiry n s) := by
  have sub : (s.line n).sub = .recovery := by
    cases waited : (s.line n).waited <;> simp [Line.limitReached, waited] at reached
    exact reached.1
  have again := law_newWait (law n)
  have closed : (s.line n).newWait.link.frame = none := no_frame_of_law again (by simp [Line.newWait, sub])
  have enabled : (s.line n).newWait.disablePending = false := not_pending_of_no_frame again closed
  refine lineLaw_of_lineOnly (recoveryExpiry_lineOnly n s) law ?_
  by_cases running : (s.line n).running = true
  · rw [recoveryExpiry_eq_countFailure running, countFailure_line (by rw [notReadyPosted_line]; exact running),
      notReadyPosted_line]
    exact law_counted again running closed false
  · by_cases probing : (s.line n).state = .probing
    · rw [recoveryExpiry_of_probing probing]
      have valid := LineLaw.valid law (n := n) (by simp [probing])
      have counts := bounds_of_valid valid
      obtain few | many := Nat.lt_or_ge ((s.line n).probeFrames + 1) 255
      · rw [probeTimeout_of_lt (by rwa [setLine_line_same]), setLine_line_same]
        exact law_probeCounted again probing (by show 0 < (s.line n).profile.probeGood.toNat; omega) few
      · rw [probeTimeout_of_le (by rwa [setLine_line_same]), departService_line, setLine_line_same]
        exact law_left (l := { (s.line n).newWait with
          probeFrames := (s.line n).probeFrames + 1, goodRun := 0 }) closed enabled valid .lost
    · rw [recoveryExpiry_of_other running probing, updLine_line_same]
      exact again

/-- An entry to PROBING of a line out of service with a valid profile. -/
theorem enterProbing_lineLaw (law : LineLaw s) (away : (s.line n).state.inService = false)
    (valid : firstFailingCheck (s.line n).profile = none) (da : Bool) (why : LineReason) :
    LineLaw (enterProbing n da why s) := by
  rw [enterProbing_eq]
  exact setLine_lineLaw law (law_enterProbing (law n) away valid da)

/-- The end of recovery. -/
theorem becomeReady_lineLaw (law : LineLaw s) (observes : (s.line n).observesDa = true) :
    LineLaw (s.updLine n (·.becomeReady)) := by
  simp only [Line.observesDa, Bool.and_eq_true, decide_eq_true_eq] at observes
  obtain ⟨recovers, -⟩ := observes
  exact setLine_lineLaw law (law_becomeReady (law n) recovers)

end Work

/-! ## The cycle start keeps the law -/

/-- A running frame started for a line in service that is not in RECOVERY: the line's law is kept, and it stays such a
line. -/
theorem startRunningFrame_keeps {s : State} {n : LineNo} (law : (s.line n).Law)
    (ready : (s.line n).state.inService = true ∧ (s.line n).sub ≠ .recovery) :
    ((startRunningFrame n s).line n).Law ∧
      ((startRunningFrame n s).line n).state.inService = true ∧ ((startRunningFrame n s).line n).sub ≠ .recovery := by
  obtain ⟨served, settled⟩ := ready
  have same := (chooseSlot_serviceOnly n s).lawSame n
  have line : (startRunningFrame n s).line n =
      ((chooseSlot n s).2.line n).startFrame (chooseSlot n s).1 ((chooseSlot n s).2.line n).deadline :=
    updLine_line_same _ n _
  rw [← same.state] at served
  rw [← same.sub] at settled
  rw [line]
  exact ⟨law_startFrame (same.law law) served settled _ _, served, by simp [Line.startFrame]⟩

/-- Running frames started for lines in service that are not in RECOVERY. -/
theorem startFrames_lineLaw {ns : List LineNo} {s : State} (law : LineLaw s)
    (ready : ∀ n ∈ ns, (s.line n).state.inService = true ∧ (s.line n).sub ≠ .recovery) :
    LineLaw (ns.foldl (fun s n => startRunningFrame n s) s) := by
  induction ns generalizing s with
  | nil => exact law
  | cons n ns ih =>
    have only := startRunningFrame_lineOnly n s
    obtain ⟨line, still⟩ := startRunningFrame_keeps (law n) (ready n (List.mem_cons_self ..))
    refine ih (lineLaw_of_lineOnly only law line) fun m hm => ?_
    by_cases here : m = n
    · rwa [here]
    · rw [only.others m here]; exact ready m (List.mem_cons_of_mem n hm)

/-- The records of the missed lines touch their rings only. -/
theorem writeAllMissed_lineLaw {ns : List LineNo} {s : State} (law : LineLaw s) :
    LineLaw (ns.foldl (fun s n => writeMissed n s) s) := by
  induction ns generalizing s with
  | nil => exact law
  | cons n ns ih =>
    refine ih (setLine_lineLaw (l := { s.line n with ring := _ }) law ?_)
    exact law n

/-- A completion leaves the lines. -/
theorem completeCycle_lineLaw {s : State} (law : LineLaw s) : LineLaw (completeCycle s) :=
  lineLaw_congr (completeCycle_told s).line law

/-- A participating line is in service and waits for its frame (R79). -/
theorem ready_of_participates {l : Line} (h : l.participates = true) :
    l.state.inService = true ∧ l.sub ≠ .recovery := by
  simp only [Line.participates, Bool.and_eq_true, decide_eq_true_eq] at h
  obtain ⟨⟨running, sub⟩, -⟩ := h
  exact ⟨inService_of_running running, by simp [sub]⟩

/-- A cycle start. -/
theorem startCycle_lineLaw {s : State} (law : LineLaw s) (source : TriggerSource) : LineLaw (startCycle source s) := by
  have numbered : LineLaw (numberCycle s) := lineLaw_of_same (s := s) (fun m => by
    rw [numberCycle, updLines_line]; rfl) law
  have started := startFrames_lineLaw (ns := (formSets (numberCycle s)).cycle.participating)
    (s := initialiseBack source (formSets (numberCycle s))) numbered fun n hn =>
      ready_of_participates (List.mem_filter.mp hn).2
  have recorded := writeAllMissed_lineLaw (ns := allLines.filter fun n => ((formSets (numberCycle s)).line n).isMissed)
    started
  simp only [startCycle]
  split
  · exact completeCycle_lineLaw (lineLaw_of_cycle recorded _)
  · exact lineLaw_of_cycle recorded _

/-- A trigger taken. -/
theorem takeTrigger_lineLaw {s : State} (law : LineLaw s) (source : TriggerSource) :
    LineLaw (takeTrigger source s) := by
  unfold takeTrigger
  split
  · exact law
  · exact startCycle_lineLaw law source
  · exact law

end Sys2Proof.Machine
end

section
/-! PROOFS. Every command keeps the line controllers' law (R23, R24). -/

namespace Sys2Proof.Machine

/-! ## The commands keep the law -/

/-- The owner of a command keeps the law, whatever it answers. -/
def KeepsLineLaw (owner : State → Answer) : Prop := ∀ s, LineLaw s → LineLaw (owner s).state

theorem accept_state (value : Nat) (s : State) : (accept value s).state = s := rfl

/-- A step that keeps the law while RESET is high keeps it. -/
theorem lineLaw_of_whileRunning {f : State → State} {s t : State} (keeps : ∀ s, LineLaw s → LineLaw (f s))
    (law : LineLaw s) (run : whileRunning f s = .next t) : LineLaw t := by
  rw [whileRunning_next] at run
  rw [← next_inj run]
  split
  · exact law
  · exact keeps s law

/-- A command taken keeps the law when its owner does. -/
theorem takeCommand_lineLaw {owner : State → Answer} (keeps : KeepsLineLaw owner) (code : Word) (s : State)
    (law : LineLaw s) : LineLaw (takeCommand code owner s) :=
  keeps (s.taken code) law

/-- A command that names a line keeps the law when its owner does for every line. -/
theorem withLine_keeps {owner : LineNo → State → Answer} (keeps : ∀ n, KeepsLineLaw (owner n)) :
    KeepsLineLaw (withLine owner) := by
  intro s law
  unfold withLine
  split
  · exact law
  · exact keeps _ s law

/-- An owner that leaves every line keeps the law. -/
theorem keeps_of_lines {owner : State → Answer} (same : ∀ s m, (owner s).state.line m = s.line m) :
    KeepsLineLaw owner := fun s law => lineLaw_congr (same s) law

theorem lineEnable_keeps (da : Bool) (n : LineNo) : KeepsLineLaw (lineEnable da n) := by
  intro s law
  unfold lineEnable
  split
  · exact law
  · next off =>
    split
    · exact law
    · next valid => exact enterProbing_lineLaw law (by simp [not_not.mp off, LineState.inService]) valid da .enabled

theorem lineRestart_keeps (da : Bool) (n : LineNo) : KeepsLineLaw (lineRestart da n) := by
  intro s law
  unfold lineRestart
  split
  · exact law
  · next lost =>
    have state := not_not.mp lost
    exact enterProbing_lineLaw law (by simp [state, LineState.inService]) (law.valid (by simp [state])) da .restarted

theorem lineDisable_keeps (n : LineNo) : KeepsLineLaw (lineDisable n) := by
  intro s law
  by_cases off : (s.line n).state = .off
  · rwa [lineDisable, if_pos off]
  · by_cases sub : (s.line n).sub = .frame
    · rw [lineDisable_of_frame off sub, accept_state]
      exact setLine_lineLaw law (law_pending (law n) sub)
    · rw [lineDisable_of_not_frame off sub, accept_state]
      exact departService_lineLaw law sub off .off .disabled

theorem cycleStart_keeps : KeepsLineLaw cycleStart := by
  refine keeps_of_lines fun s m => ?_
  unfold cycleStart
  repeat' split
  all_goals rfl

theorem cycleStop_keeps : KeepsLineLaw cycleStop := by
  refine keeps_of_lines fun s m => ?_
  unfold cycleStop
  split <;> rfl

theorem triggerCommand_keeps : KeepsLineLaw triggerCommand := by
  intro s law
  unfold triggerCommand
  split
  · exact law
  · exact takeTrigger_lineLaw law .host

theorem bankHold_keeps : KeepsLineLaw bankHold := keeps_of_lines fun _ _ => rfl

theorem bankRelease_keeps : KeepsLineLaw bankRelease := by
  refine keeps_of_lines fun s m => ?_
  simp only [bankRelease]
  split <;> rfl

theorem setPreset_keeps (n : LineNo) : KeepsLineLaw (setPreset n) := by
  intro s law
  unfold setPreset
  split
  · next served => exact setLine_lineLaw law (law_of_pos (law n) served _)
  · exact law

/-- A line may lose its preset. -/
theorem cancelPreset_keeps (n : LineNo) : KeepsLineLaw (cancelPreset n) := by
  intro s law
  unfold cancelPreset
  split
  · refine setLine_lineLaw law ?_
    obtain ⟨run, degraded, probing, out, rest⟩ := law n
    refine ⟨run, degraded, probing, fun away => ?_, rest⟩
    obtain ⟨sub, watch, -⟩ := out away
    exact ⟨sub, watch, rfl⟩
  · exact law

theorem ackContinuity_keeps (n : LineNo) : KeepsLineLaw (ackContinuity n) := by
  intro s law
  unfold ackContinuity
  split
  · exact setLine_lineLaw law (LawSame.law (l := s.line n) rfl (law n))
  · exact law

/-- A line may hold any queue. -/
theorem law_of_queue {l : Line} (law : l.Law) (queue : List CtxNo) : Line.Law { l with queue := queue } := law

/-- An allocation puts its context into the line's queue. -/
theorem allocate_lineLaw {s : State} (law : LineLaw s) (c : CtxNo) (n : LineNo) (op : SvcOp) (code : Byte) :
    LineLaw (allocate c n op code s) :=
  setLine_lineLaw (s := s.setCtx c _) law (law_of_queue (law n) _)

theorem svcOpen_keeps (n : LineNo) : KeepsLineLaw (svcOpen n) := by
  intro s law
  unfold svcOpen openOn
  split
  · exact law
  · split
    · split
      · exact law
      · exact allocate_lineLaw law _ n _ _
    · exact law

theorem svcCancel_keeps : KeepsLineLaw svcCancel := by
  intro s law
  simp only [svcCancel]
  repeat' split
  · next r _ => exact setLine_lineLaw law (LawSame.law (l := s.line r.line) rfl (law r.line))
  · next r p _ => exact setLine_lineLaw law (LawSame.law (l := s.line r.line) rfl (law r.line))
  · exact law
  · exact law

theorem svcRelease_keeps : KeepsLineLaw svcRelease := by
  refine keeps_of_lines fun s m => ?_
  simp only [svcRelease]
  repeat' split
  all_goals rfl

theorem eventPop_keeps : KeepsLineLaw eventPop := by
  refine keeps_of_lines fun s m => ?_
  unfold eventPop
  split <;> rfl

theorem eventFlush_keeps : KeepsLineLaw eventFlush := keeps_of_lines fun _ _ => rfl

theorem faultClear_keeps : KeepsLineLaw faultClear := keeps_of_lines fun _ _ => rfl

/-- A line after a reset. -/
theorem resetBlocks_line (s : State) (n : LineNo) :
    (resetBlocks s).line n = { Line.reset with link := { Line.reset.link with da := (s.line n).link.da } } :=
  perLine_getElem _ n

theorem resetBlocks_lineLaw (s : State) : LineLaw (resetBlocks s) := fun n => by
  rw [resetBlocks_line]; exact law_reset _

theorem softReset_keeps : KeepsLineLaw softReset := fun s _ => resetBlocks_lineLaw s

/-- Every owner of a command keeps the law. -/
theorem ownerOf_keeps {c : Instr} {owner : State → Answer} (h : ownerOf c = some owner) : KeepsLineLaw owner := by
  cases c <;> simp only [ownerOf, Option.some.injEq, reduceCtorEq] at h
  all_goals subst h
  case lineEnable da => exact withLine_keeps (lineEnable_keeps da)
  case lineDisable => exact withLine_keeps lineDisable_keeps
  case lineRestart da => exact withLine_keeps (lineRestart_keeps da)
  case cycleStart => exact cycleStart_keeps
  case cycleStop => exact cycleStop_keeps
  case trigger => exact triggerCommand_keeps
  case bankHold => exact bankHold_keeps
  case bankRelease => exact bankRelease_keeps
  case setPreset => exact withLine_keeps setPreset_keeps
  case cancelPreset => exact withLine_keeps cancelPreset_keeps
  case ackContinuity => exact withLine_keeps ackContinuity_keeps
  case svcOpen => exact withLine_keeps svcOpen_keeps
  case svcCancel => exact svcCancel_keeps
  case svcRelease => exact svcRelease_keeps
  case eventPop => exact eventPop_keeps
  case eventFlush => exact eventFlush_keeps
  case faultClear => exact faultClear_keeps
  case softReset => exact softReset_keeps

/-- A write to CMD keeps the law, whatever its value. -/
theorem writeCmd_lineLaw (value : Word) (s : State) (law : LineLaw s) : LineLaw (writeCmd value s) := by
  refine takeCommand_lineLaw ?_ value s law
  unfold ownerOfValue
  split
  · next owner found =>
    obtain ⟨c, -, owned⟩ := Option.bind_eq_some_iff.mp found
    exact ownerOf_keeps owned
  · exact keeps_of_lines fun _ _ => rfl

/-! ## The events keep the law -/

theorem writeProfile_lineLaw (n : LineNo) (k : Fin 5) (value : Word) (s : State) (law : LineLaw s) :
    LineLaw (s.updLine n (·.writeProfile k value)) :=
  setLine_lineLaw law (law_writeProfile (law n) k value)

theorem hostWrite_lineLaw (address : Address) (value : Word) (s : State) (law : LineLaw s) :
    LineLaw (hostWrite address value s) := by
  unfold hostWrite
  split
  · exact writeCmd_lineLaw value s law
  · exact law
  · exact law
  · exact law
  · exact law
  · exact writeProfile_lineLaw _ _ value s law
  · exact law

theorem syncEdge_lineLaw (s : State) (law : LineLaw s) : LineLaw (syncEdge s) := by
  unfold syncEdge
  split
  · exact takeTrigger_lineLaw law .sync
  · exact law

theorem timerExpiry_lineLaw (s : State) (law : LineLaw s) : LineLaw (timerExpiry s) := by
  unfold timerExpiry
  split
  · exact takeTrigger_lineLaw (lineLaw_of_cycle law _) .timer
  · exact law

theorem timestampTick_lineLaw (s : State) (law : LineLaw s) : LineLaw (timestampTick s) := fun n => by
  rw [timestampTick_line]; exact law_tick (law n)

/-- Every command keeps the law of the line controllers. -/
theorem exec_lineLaw {c : Instr} {s t : State} (law : LineLaw s) (run : exec c s = .next t) : LineLaw t := by
  have command {owner : State → Answer} {code : Word} (owned : ownerOf c = some owner)
      (run : whileRunning (takeCommand code owner) s = .next t) : LineLaw t :=
    lineLaw_of_whileRunning (takeCommand_lineLaw (ownerOf_keeps owned) code) law run
  cases c with
  | lineEnable da => exact command rfl run
  | lineDisable => exact command rfl run
  | lineRestart da => exact command rfl run
  | cycleStart => exact command rfl run
  | cycleStop => exact command rfl run
  | trigger => exact command rfl run
  | bankHold => exact command rfl run
  | bankRelease => exact command rfl run
  | setPreset => exact command rfl run
  | cancelPreset => exact command rfl run
  | ackContinuity => exact command rfl run
  | svcOpen => exact command rfl run
  | svcCancel => exact command rfl run
  | svcRelease => exact command rfl run
  | eventPop => exact command rfl run
  | eventFlush => exact command rfl run
  | faultClear => exact command rfl run
  | softReset => exact command rfl run
  | badCommand value => exact lineLaw_of_whileRunning (writeCmd_lineLaw value) law run
  | profileWrite n k value => exact lineLaw_of_whileRunning (writeProfile_lineLaw n k value) law run
  | cycleConfigurationWrite value =>
    simp only [exec, execCycleConfigurationWrite] at run
    refine lineLaw_of_whileRunning ?_ law run
    exact fun _ law => law
  | serviceConfigurationWrite value =>
    simp only [exec, execServiceConfigurationWrite] at run
    refine lineLaw_of_whileRunning ?_ law run
    exact fun _ law => law
  | classMaskWrite value =>
    simp only [exec, execClassMaskWrite] at run
    refine lineLaw_of_whileRunning ?_ law run
    exact fun _ law => law
  | registerWrite address value => exact lineLaw_of_whileRunning (hostWrite_lineLaw address value) law run
  | syncEdge => exact lineLaw_of_whileRunning syncEdge_lineLaw law run
  | timerExpiry => exact lineLaw_of_whileRunning timerExpiry_lineLaw law run
  | hardwareReset => exact next_inj run ▸ resetBlocks_lineLaw s
  | resetRelease =>
    rw [← next_inj run]
    split
    · exact resetBlocks_lineLaw s
    · exact law
  | probeFrameEnd n samples =>
    simp only [exec, execProbeFrameEnd] at run
    refine lineLaw_of_whileRunning ?_ law run
    intro s law
    split
    · next f probing _ => exact probeEnd_lineLaw law probing _
    · exact law
  | runningFrameEnd n samples =>
    simp only [exec, execRunningFrameEnd] at run
    refine lineLaw_of_whileRunning ?_ law run
    intro s law
    split
    · next f state _ => exact runningEnd_lineLaw law ((running_iff _).mpr (.inl state)) _
    · next f state _ => exact runningEnd_lineLaw law ((running_iff _).mpr (.inr state)) _
    · exact law
  | endOfRecovery n =>
    simp only [exec, execEndOfRecovery] at run
    refine lineLaw_of_whileRunning ?_ law run
    intro s law
    split
    · next observes => exact becomeReady_lineLaw law observes
    · exact law
  | recoveryLimitExpiry n =>
    simp only [exec, execRecoveryLimitExpiry] at run
    refine lineLaw_of_whileRunning ?_ law run
    intro s law
    split
    · next reached => exact recoveryExpiry_lineLaw law reached
    · exact law
  | timestampCounterTick => exact lineLaw_of_whileRunning timestampTick_lineLaw law run

/-- Settles O56: the front command keeps the law, and an idle step changes nothing. -/
theorem stepKeepsTheLineLaw : Obligations.StepKeepsTheLineLaw := by
  intro s t law run
  unfold step at run
  split at run
  · rwa [← next_inj run]
  · next c rest _ => exact exec_lineLaw (s := { s with pending := rest }) law run

end Sys2Proof.Machine
end

section
/-! PROOFS. The three resets (R184, R185): the blocks that they leave, and the words that the window then shows. -/

namespace Sys2Proof.Machine

/-! ## The reset words (R178, R179, R185) -/

/-- While RESET is high a read shows the word that the map names. -/
theorem hostRead_of_high {s : State} (high : s.resetLow = false) (a : Address) :
    hostRead s a = windowWord s (decodeAddress a) := by
  simp [hostRead, high]

/-- While RESET is low every read is 0 (log entry 20). -/
theorem hostRead_of_low {s : State} (low : s.resetLow = true) (a : Address) : hostRead s a = 0 := by
  simp [hostRead, low]

/-- The address of a profile word names it (R175). -/
theorem decodeAddress_profile : ∀ (n : LineNo) (k : Fin 5),
    decodeAddress (BitVec.ofNat 10 (0x040 + 8 * n.val + k.val)) = .profile n k := by
  decide

/-- A part whose blocks are reset shows the service status 0. -/
theorem serviceStatusWord_of_reset {s t : State} (h : ∀ n, t.line n = expectedResetLine (s.line n).link.da) :
    serviceStatusWord t = 0 := by
  simp only [serviceStatusWord, h, expectedResetLine]
  decide

/-- A part whose blocks are reset shows the reset words, with no class enabled and CMD_VALUE 0. -/
theorem windowIsReset_of_blocks {s t : State} (blocks : BlocksAreReset s t)
    (mask : t.events.mask = ⟨false, false, false, false⟩) (value : t.port.value = 0) : WindowIsReset t := by
  obtain ⟨high, faults, -, cycle, banks, service, lines⟩ := blocks
  have read := hostRead_of_high high
  refine ⟨read _, (read _).trans value, ?_, ?_, ?_, ?_, ?_, ?_, fun n k => ?_⟩
  · rw [read]; show cycleConfigWord t.cycle = _; rw [cycle]; decide
  · rw [read]; show serviceConfigWord t.service = _; rw [service]; decide
  · rw [read]; exact serviceStatusWord_of_reset lines
  · rw [read]; show faultWord t.faults = _; rw [faults]; decide
  · rw [read]; show maskWord t.events.mask = _; rw [mask]; decide
  · rw [read]; show bankStateWord t.banks = _; rw [banks]; decide
  · rw [read, decodeAddress_profile]
    show profileWord (t.line n).profile k = _
    rw [lines]
    show profileWord expectedProfile k = _
    revert k
    decide

/-- Every block but the event queue and the command port is reset. -/
theorem resetBlocks_blocks (s : State) : BlocksAreReset s (resetBlocks s) :=
  ⟨rfl, rfl, rfl, rfl, rfl, rfl, resetBlocks_line s⟩

/-- The summary of a part whose blocks are reset tells IRQ and the fault output, which RESET asserts (R172, R177). -/
theorem summary_of_blocks {s t : State} (blocks : BlocksAreReset s t) {level : Bool} (irq : t.irq = level) :
    hostRead t 0x001 = if level then 0x30 else 0x20 := by
  obtain ⟨high, faults, -, cycle, -, service, -⟩ := blocks
  rw [hostRead_of_high high]
  show summaryWord t = _
  simp only [summaryWord, State.faultOutput, faults, cycle, service, irq]
  cases level <;> decide

/-- Settles O53: the blocks by `resetBlocks`, and the window by the blocks. -/
theorem resetsLeaveTheResetState : Obligations.ResetsLeaveTheResetState := by
  intro s
  refine ⟨fun high => ?_, ?_, fun low => ?_, fun high => ?_⟩
  · have run : exec .softReset s = .next (takeCommand 0x3F softReset s) := whileRunning_of_high high _
    have blocks : BlocksAreReset s (takeCommand 0x3F softReset s) :=
      ⟨rfl, rfl, rfl, rfl, rfl, rfl, resetBlocks_line s⟩
    have result : resultWord 0x3F .accepted = 0x3F00 := by decide
    have port : (takeCommand 0x3F softReset s).port =
        { cmd := 0x3F, args := Vector.replicate 6 0, result := 0x3F00, value := 0 } := by
      rw [← result]; rfl
    have read := hostRead_of_high (s := takeCommand 0x3F softReset s) rfl
    exact ⟨_, run, blocks, rfl, rfl, port, summary_of_blocks blocks rfl, read 0x002,
      (read 0x009).trans (congrArg CommandPort.result port), read 0x024, windowIsReset_of_blocks blocks rfl rfl⟩
  · exact ⟨_, rfl, rfl, rfl, rfl, rfl, fun n => by
      rw [show State.line { resetBlocks s with resetLow := true } n = _ from resetBlocks_line s n]; rfl,
      hostRead_of_low rfl⟩
  · have run : exec .resetRelease s = .next (resetBlocks s) := by simp [exec, execResetRelease, low]
    have blocks := resetBlocks_blocks s
    have read := hostRead_of_high (s := resetBlocks s) rfl
    exact ⟨_, run, blocks, rfl, rfl, rfl, summary_of_blocks blocks rfl, read 0x002, read 0x009, read 0x024,
      windowIsReset_of_blocks blocks rfl rfl⟩
  · simp [exec, execResetRelease, high]

end Sys2Proof.Machine
end

section
/-! PROOFS. What the position unit and the service engine post and raise at a running frame end (R60, R63, R67, R129,
R169), in the order of the statements. -/

namespace Sys2Proof.Machine

/-! ## What the position unit posts and raises (R60, R63, R67, R169) -/

theorem compareReference_posts (n : LineNo) (ew : ErrWrn) (s : State) :
    Posts (if (s.line n).pos.reference = ew then [] else [.encStatus n ew]) s (compareReference n ew s) := by
  unfold compareReference
  split
  · exact .refl s
  · exact post_posts _ (s.updPos n _)

@[simp] theorem compareReference_faults (n : LineNo) (ew : ErrWrn) (s : State) :
    (compareReference n ew s).faults = s.faults := by
  unfold compareReference
  split <;> rfl

/-- The cause of a line that loses its continuity: new, and only on a SAFETY line (R60, R169). -/
def continuityCause (s : State) (n : LineNo) : List FaultCause :=
  if (s.line n).profile.safety = true ∧ .continuity n ∉ s.faults then [.continuity n] else []

theorem continuityLost_faults (n : LineNo) (age : Nat) (s : State) :
    (continuityLost n age s).faults = s.faults ++ continuityCause s n := by
  simp only [continuityLost, continuityCause]
  by_cases safety : (s.line n).profile.safety = true
  · by_cases known : FaultCause.continuity n ∈ s.faults <;> simp [safety, known, raiseCause_faults]
  · simp [safety]

theorem continuityLost_posts (n : LineNo) (age : Nat) (s : State) :
    Posts (.continuityLost n age :: (continuityCause s n).map .faultRaised) s (continuityLost n age s) := by
  have posted := post_posts (.continuityLost n age) s
  have raised := posted.trans (raiseCause_posts (.continuity n) _)
  simp only [continuityLost, continuityCause]
  by_cases safety : (s.line n).profile.safety = true
  · by_cases known : FaultCause.continuity n ∈ s.faults
    · simpa [safety, known] using raised
    · simpa [safety, known] using raised
  · simpa [safety] using posted

theorem takeArmedPreset_posts (n : LineNo) (s : State) :
    Posts (if (s.line n).pos.preset.isSome then [.presetTaken n] else []) s (takeArmedPreset n s) := by
  unfold takeArmedPreset
  cases (s.line n).pos.preset with
  | none => exact .refl s
  | some v => exact post_posts _ (s.updPos n fun u => u.takePreset v)

@[simp] theorem takeArmedPreset_faults (n : LineNo) (s : State) : (takeArmedPreset n s).faults = s.faults := by
  unfold takeArmedPreset
  split <;> rfl

/-- A sample of an anchored line behind a gap is a gap sample, and no other one is (R54, R56). -/
theorem judgeSample_eq_gap_iff (p : Profile) (u : PositionUnit) (r : Nat) :
    judgeSample p u r = .gapSample ↔ u.anchored = true ∧ isGap p u = true := by
  unfold judgeSample
  cases u.anchored
  · simp
  · cases isGap p u
    · simp; split <;> simp
    · simp

/-- The anchor state moves under an armed preset, which is taken behind it. -/
@[simp] theorem trust_preset (u : PositionUnit) (p : Profile) (case : SampleCase) (r : Nat) :
    (u.trust p case r).preset = u.preset := by
  cases case <;> rfl

/-- Whether a sample of a case ends VALID continuity (R56, R60). -/
abbrev endsValid (case : SampleCase) (u : PositionUnit) : Prop := case = .gapSample ∧ u.continuity = .valid

/-- What a trusted sample posts and raises: a lost continuity, and then the preset. -/
theorem applySample_of_trusted {n : LineNo} {case : SampleCase} (r : Nat) {s : State} (h : case.trusted = true) :
    let u := (s.line n).pos
    Posts
      ((if endsValid case u then .continuityLost n u.age :: (continuityCause s n).map .faultRaised else []) ++
        if u.preset.isSome then [.presetTaken n] else [])
      s (applySample n case r s) ∧
    (applySample n case r s).faults = s.faults ++ if endsValid case u then continuityCause s n else [] := by
  intro u
  let moved := s.updPos n fun v => v.trust (s.line n).profile case r
  have line : moved.line n = { s.line n with pos := u.trust (s.line n).profile case r } := updLine_line_same s n _
  have cause : continuityCause moved n = continuityCause s n := by
    simp only [continuityCause, line]; rfl
  simp only [applySample, h, if_true, Bool.and_eq_true, decide_eq_true_eq]
  by_cases ends : endsValid case u
  · have lost := continuityLost_posts n u.age moved
    have taken := takeArmedPreset_posts n (continuityLost n u.age moved)
    rw [continuityLost_line, line] at taken
    simp only [trust_preset] at taken
    rw [cause] at lost
    rw [if_pos ends, if_pos ends, if_pos ends, takeArmedPreset_faults]
    refine ⟨lost.trans taken, (continuityLost_faults n u.age moved).trans ?_⟩
    rw [cause]
    rfl
  · have taken := takeArmedPreset_posts n moved
    rw [line] at taken
    simp only [trust_preset] at taken
    rw [if_neg ends, if_neg ends, if_neg ends, takeArmedPreset_faults]
    exact ⟨taken, (List.append_nil _).symm⟩

/-- The causes of a frame are those of a lost continuity, when it ends one. -/
theorem continuityCauses_eq (s : State) (n : LineNo) (result : FrameResult) :
    continuityCauses s n result = if EndsContinuity s n result then continuityCause s n else [] := by
  unfold continuityCauses continuityCause
  by_cases ends : EndsContinuity s n result
  · rw [if_pos ends]
    exact if_congr (and_iff_right ends) rfl rfl
  · rw [if_neg ends, if_neg fun h => ends h.1]

/-- The events of the position unit, with those of a lost continuity together. -/
theorem positionEvents_eq (s : State) (n : LineNo) (result : FrameResult) :
    positionEvents s n result =
      (match result.errWrn with
        | none => []
        | some ew => if (s.line n).pos.reference = ew then [] else [.encStatus n ew]) ++
      ((if EndsContinuity s n result then
          .continuityLost n (s.line n).pos.age :: (continuityCause s n).map .faultRaised else []) ++
        if expectedStatus s n result = .good ∧ (s.line n).pos.preset.isSome then [.presetTaken n] else []) := by
  rw [positionEvents, continuityCauses_eq]
  by_cases ends : EndsContinuity s n result
  · rw [if_pos ends, if_pos ends, if_pos ends, List.append_assoc, List.append_assoc]
    rfl
  · rw [if_neg ends, if_neg ends, if_neg ends, List.append_nil]
    exact congrArg (· ++ _) (List.append_nil _)

/-- A frame that is not good posts ENC_STATUS at most, and raises no cause. -/
theorem positionEvents_of_not_good {s : State} {n : LineNo} {result : FrameResult}
    (bad : expectedStatus s n result ≠ .good) :
    positionEvents s n result =
        (match result.errWrn with
          | none => []
          | some ew => if (s.line n).pos.reference = ew then [] else [.encStatus n ew]) ∧
      continuityCauses s n result = [] := by
  have ends : ¬EndsContinuity s n result := fun h => bad h.1
  rw [positionEvents_eq, continuityCauses_eq, if_neg ends, if_neg ends, if_neg fun h => bad h.1]
  exact ⟨List.append_nil _, rfl⟩

/-- The position unit's work at a sample that is trusted. -/
theorem positionWork_posts_of_trusted {n : LineNo} (l : Nat) {raw : Nat} {ew : ErrWrn} (reply : Slot) {s : State}
    (noErr : ew.err = false) (trusted : (caseOf s n raw).trusted = true) :
    let result : FrameResult := .checkOk l raw ew reply
    Posts (positionEvents s n result) s (positionWork n result s).1 ∧
      (positionWork n result s).1.faults = s.faults ++ continuityCauses s n result := by
  intro result
  have good : expectedStatus s n result = .good := by
    rw [expectedStatus_of_sample s n l raw reply noErr, if_pos trusted]
  have ends : endsValid (caseOf s n raw) { (s.line n).pos with reference := ew } ↔ EndsContinuity s n result := by
    simp only [endsValid, caseOf, judgeSample_eq_gap_iff, isGap_eq_true_iff, EndsContinuity, good, true_and, and_assoc]
  have cause : continuityCause (compareReference n ew s) n = continuityCause s n := by
    simp only [continuityCause, compareReference_line, compareReference_faults]
  obtain ⟨posts, faults⟩ := applySample_of_trusted (n := n) (decodedOf s n raw) (s := compareReference n ew s) trusted
  simp only [compareReference_line, cause, ends] at posts faults
  rw [positionEvents_eq, continuityCauses_eq, positionWork, positionFrameEnd_of_sample n raw s noErr]
  simp only [good, true_and]
  exact ⟨(compareReference_posts n ew s).trans posts, by rw [faults, compareReference_faults]⟩

/-- The position unit posts the events of the statements in their order, and raises their causes. -/
theorem positionWork_posts (n : LineNo) (result : FrameResult) (s : State) :
    Posts (positionEvents s n result) s (positionWork n result s).1 ∧
      (positionWork n result s).1.faults = s.faults ++ continuityCauses s n result := by
  have idle (bad : expectedStatus s n result ≠ .good) (absent : result.errWrn = none) :
      Posts (positionEvents s n result) s s ∧ s.faults = s.faults ++ continuityCauses s n result := by
    obtain ⟨events, causes⟩ := positionEvents_of_not_good bad
    rw [events, causes, absent]
    exact ⟨.refl s, (List.append_nil _).symm⟩
  have compared (ew : ErrWrn) (bad : expectedStatus s n result ≠ .good) (present : result.errWrn = some ew) :
      Posts (positionEvents s n result) s (compareReference n ew s) ∧
        (compareReference n ew s).faults = s.faults ++ continuityCauses s n result := by
    obtain ⟨events, causes⟩ := positionEvents_of_not_good bad
    rw [events, causes, present, compareReference_faults]
    exact ⟨compareReference_posts n ew s, (List.append_nil _).symm⟩
  cases result with
  | noAck => exact idle (by simp [expectedStatus]) rfl
  | noStart => exact idle (by simp [expectedStatus]) rfl
  | checkFail l => exact idle (by simp [expectedStatus]) rfl
  | checkOk l raw ew reply =>
    cases err : ew.err with
    | true =>
      rw [positionWork, positionFrameEnd_of_err n raw s err]
      exact compared ew (by simp [expectedStatus, err]) rfl
    | false =>
      by_cases trusted : (caseOf s n raw).trusted = true
      · exact positionWork_posts_of_trusted l reply err trusted
      · have jump := expectedStatus_of_sample s n l raw reply err
        rw [if_neg trusted] at jump
        rw [positionWork, positionFrameEnd_of_sample n raw s err, applySample, if_neg trusted]
        exact compared ew (by simp [jump]) rfl

/-- The events and the causes of the position unit read its line and the fault cause set. -/
theorem positionEvents_congr {s t : State} {n : LineNo} (result : FrameResult)
    (profile : (t.line n).profile = (s.line n).profile) (pos : (t.line n).pos = (s.line n).pos)
    (faults : t.faults = s.faults) :
    positionEvents t n result = positionEvents s n result ∧
      continuityCauses t n result = continuityCauses s n result := by
  have status := expectedStatus_congr result profile pos
  simp only [positionEvents, continuityCauses, EndsContinuity, gapOf, status, profile, pos, faults, and_self]

/-! ## What the service engine posts (R129, R142) -/

@[simp] theorem owing_cycle (s : State) (n : LineNo) (owes : Bool) : (s.owing n owes).cycle = s.cycle := by
  cases owes <;> rfl

/-- An effect posts the SVC_FINISHED of a context that it finishes. -/
theorem CtxEffect.apply_posts (c : CtxNo) (r : Request) (e : CtxEffect) (s : State) :
    Posts
      (match e.body r with
        | .finished _ _ x => [.svcFinished r.line c (s.ctx c).generation x.kind x.reason]
        | _ => [])
      s (e.apply c r s) := by
  cases e with
  | goesOn owes p => exact .none (owing_cycle s r.line owes) (owing_events s r.line owes)
  | finishes owes a x =>
    rw [← owing_ctx s r.line owes c]
    exact Posts.trans (.none (owing_cycle s r.line owes) (owing_events s r.line owes))
      (post_posts _ ((s.owing r.line owes).setBody c _))

/-- The service engine posts the SVC_FINISHED of the context that a frame end finishes. -/
theorem serviceFrameEnd_posts (n : LineNo) (result : FrameResult) (s : State) :
    Posts (serviceEvents s n result) s (serviceFrameEnd n result s) := by
  have judged : Posts [] s (judgeDelivery n result.outcome s) := .none (by simp) (by simp)
  obtain none' | ⟨c, r, p, active⟩ := activeCtx_cases s n
  · simp only [serviceEvents, none']
    rw [serviceFrameEnd_of_none result none']
    exact judged
  · obtain ⟨e, he⟩ := serviceFrameEnd_effect n c r p (s.line n).slot result
    have done := he s active rfl
    have after : ((serviceFrameEnd n result s).ctx c).body = e.body r := by simp [done, e.apply_ctx]
    obtain ⟨found, body, onLine⟩ := active
    have posts := judged.trans (e.apply_posts c r (judgeDelivery n result.outcome s))
    rw [judgeDelivery_ctx, onLine] at posts
    simp only [serviceEvents, found]
    rw [after, done]
    exact posts

/-- The events of the service engine read the contexts and the line's slot in flight and abort-owed flag. -/
theorem serviceEvents_congr {s t : State} {n : LineNo} (result : FrameResult)
    (contexts : t.service.contexts = s.service.contexts) (slot : (t.line n).slot = (s.line n).slot)
    (owed : (t.line n).abortOwed = (s.line n).abortOwed) : serviceEvents t n result = serviceEvents s n result := by
  obtain ⟨served, -⟩ := serviceFrameEnd_congr result contexts slot owed
  have generation : ∀ c, (t.ctx c).generation = (s.ctx c).generation := fun c => by simp only [State.ctx, contexts]
  simp only [serviceEvents, activeCtx_congr contexts n, served, generation]

/-- A frame end makes no context QUEUED, and leaves every QUEUED one. -/
theorem serviceFrameEnd_queuedOn (n : LineNo) (result : FrameResult) (s : State) (d : CtxNo) :
    ((serviceFrameEnd n result s).ctx d).body.queuedOn = (s.ctx d).body.queuedOn := by
  obtain none' | ⟨c, r, p, active⟩ := activeCtx_cases s n
  · simp [serviceFrameEnd_of_none result none']
  · obtain ⟨e, he⟩ := serviceFrameEnd_effect n c r p (s.line n).slot result
    have done := he s active rfl
    obtain ⟨-, body, -⟩ := active
    rw [done, setSlot_ctx, e.apply_ctx, judgeDelivery_ctx, judgeDelivery_ctx]
    split
    · next here => rw [here, body]; cases e <;> rfl
    · rfl

/-- A context that is ACTIVE on the line after its frame end was so before. -/
theorem activeOn_of_served {n : LineNo} {result : FrameResult} {s : State} {c : CtxNo}
    (h : ((serviceFrameEnd n result s).ctx c).body.activeOn = some n) : (s.ctx c).body.activeOn = some n := by
  by_contra idle
  rw [serviceFrameEnd_ctx_of_not_active result idle] at h
  exact idle h

end Sys2Proof.Machine
end

section
/-! PROOFS. A running frame end up to and behind its health counting (R36, R40 to R42): its events, its causes, and
the contexts of a line that is LOST. -/

namespace Sys2Proof.Machine

/-! ## The frame end up to its health counting -/

section FrameWork

variable {s : State} {n : LineNo} {result : FrameResult}

/-- The events up to the health counting: the position unit's, and then the service engine's. -/
theorem frameWork_posts (n : LineNo) (result : FrameResult) (s : State) :
    Posts (positionEvents s n result ++ serviceEvents s n result) s (frameWork n result s) := by
  have line : (s.updLine n (·.endFrame result)).line n = (s.line n).endFrame result := updLine_line_same s n _
  obtain ⟨posts, -⟩ := positionWork_posts n result (s.updLine n (·.endFrame result))
  have served := serviceFrameEnd_posts n result (positionWork n result (s.updLine n (·.endFrame result))).1
  obtain ⟨events, -⟩ := positionEvents_congr (s := s) (t := s.updLine n (·.endFrame result)) (n := n) result
    (by rw [line]; rfl) (by rw [line]; rfl) rfl
  rw [events] at posts
  rw [serviceEvents_congr (s := s) result (by rw [positionWork_service]; rfl)
    (by rw [positionWork_line, line]; rfl) (by rw [positionWork_line, line]; rfl)] at served
  exact Posts.trans posts served

/-- The causes up to the health counting are the position unit's. -/
theorem frameWork_faults (n : LineNo) (result : FrameResult) (s : State) :
    (frameWork n result s).faults = s.faults ++ continuityCauses s n result := by
  have line : (s.updLine n (·.endFrame result)).line n = (s.line n).endFrame result := updLine_line_same s n _
  obtain ⟨-, faults⟩ := positionWork_posts n result (s.updLine n (·.endFrame result))
  obtain ⟨-, causes⟩ := positionEvents_congr (s := s) (t := s.updLine n (·.endFrame result)) (n := n) result
    (by rw [line]; rfl) (by rw [line]; rfl) rfl
  rw [frameWork, (serviceFrameEnd_serviceOnly n result _).faults, faults, causes]
  rfl

/-- The work up to the health counting leaves the cause LINE_LOST known or not known, as it was. -/
theorem lineLost_mem_frameWork (n : LineNo) (result : FrameResult) (s : State) :
    .lineLost n ∈ (frameWork n result s).faults ↔ .lineLost n ∈ s.faults := by
  rw [frameWork_faults, List.mem_append, continuityCauses]
  split <;> simp

/-- The queue laws of the line hold when its health is counted. -/
theorem frameWork_fits (h : QueueFits s n) : QueueFits (frameWork n result s) n := by
  obtain ⟨once, queued, unique⟩ := h
  have queue : ((frameWork n result s).line n).queue = (s.line n).queue := by rw [frameWork_line]; rfl
  have ctx := (frameWork_served n result s).1
  constructor
  · rwa [queue]
  · intro c; rw [queue, ctx, serviceFrameEnd_queuedOn]; exact queued c
  · intro c c' active active'
    rw [ctx] at active active'
    exact unique c c' (activeOn_of_served active) (activeOn_of_served active')

end FrameWork

/-- The cause of a departure reads the line's profile and whether the cause is known. -/
theorem departCauses_congr {s t : State} {n : LineNo} (d : Departure)
    (profile : (t.line n).profile = (s.line n).profile) (known : .lineLost n ∈ t.faults ↔ .lineLost n ∈ s.faults) :
    departCauses t n d = departCauses s n d := by
  simp only [departCauses, profile, known]

/-- The events of a departure read the contexts, the line's queue, and what decides its cause. -/
theorem departEvents_congr {s t : State} {n : LineNo} {d : Departure} (why : LineReason) (armed : Bool)
    (ctx : ∀ c, t.ctx c = s.ctx c) (queue : (t.line n).queue = (s.line n).queue)
    (causes : departCauses t n d = departCauses s n d) :
    departEvents t n d why armed = departEvents s n d why armed := by
  have active : t.activeCtx n = s.activeCtx n := by simp only [State.activeCtx, ctx]
  have events := fun reason cs => failedEvents_congr (s := s) (t := t) reason (cs := cs) fun c _ => ctx c
  simp only [departEvents, active, queue, causes, events]

/-! ## The health counting of a running frame -/

section FrameHealth

variable {s : State} {n : LineNo} {result : FrameResult}

/-- The frame end up to its record, without the record: the health counted. -/
def frameHealth (n : LineNo) (result : FrameResult) (s : State) : State :=
  countSample n (expectedStatus s n result) (frameWork n result s)

/-- The health counting of a running frame, as a whole. -/
theorem frameHealth_eq (running : (s.line n).running = true) :
    frameHealth n result s = healthCounted n (healthAfter s n result) (frameWork n result s) := by
  rw [frameHealth, countSample_eq _ (frameWork_running result running), expectedHealth_frameWork]

theorem frameWork_state (n : LineNo) (result : FrameResult) (s : State) :
    ((frameWork n result s).line n).state = (s.line n).state := by
  rw [frameWork_line]; rfl

/-- A frame that takes its line to LOST is not good. -/
theorem not_good_of_lost (running : (s.line n).running = true) (lost : (healthAfter s n result).1 = .lost) :
    expectedStatus s n result ≠ .good := by
  intro good
  obtain state | state := (running_iff _).mp running
  · simp [healthAfter, good, expectedHealth, state] at lost
  · simp only [healthAfter, good, expectedHealth, state, decide_true] at lost
    split at lost <;> simp at lost

/-- The frame end up to its health counting, with the counts advanced. -/
def frameCounts (n : LineNo) (result : FrameResult) (s : State) : State :=
  (frameWork n result s).setLine n (((frameWork n result s).line n).withCounts (healthAfter s n result).2)

theorem frameCounts_line (n : LineNo) (result : FrameResult) (s : State) :
    (frameCounts n result s).line n = ((frameWork n result s).line n).withCounts (healthAfter s n result).2 :=
  setLine_line_same _ n _

theorem frameCounts_fits (fits : QueueFits s n) : QueueFits (frameCounts n result s) n :=
  (frameWork_fits fits).congr (by rw [frameCounts_line]; rfl) rfl

/-- A frame that takes its line to LOST is the line's departure with the counts advanced. -/
theorem frameHealth_of_lost (running : (s.line n).running = true) (lost : (healthAfter s n result).1 = .lost) :
    frameHealth n result s = departService n .lost .failures (frameCounts n result s) := by
  rw [frameHealth_eq running, healthCounted_of_lost lost, frameCounts]
  rw [frameWork_state]
  intro already
  simp [Line.running, already] at running

/-- A health counting that does not lead to LOST leaves the contexts and the fault cause set. -/
theorem healthCounted_of_served {n : LineNo} {health : LineState × Nat × Nat} (s : State) (served : health.1 ≠ .lost) :
    (healthCounted n health s).service = s.service ∧ (healthCounted n health s).faults = s.faults := by
  simp only [healthCounted, if_neg served]
  split <;> exact ⟨rfl, rfl⟩

/-- A health counting that does not lead to LOST leaves the line's queue. -/
theorem healthCounted_queue {n : LineNo} {health : LineState × Nat × Nat} (s : State) (served : health.1 ≠ .lost) :
    ((healthCounted n health s).line n).queue = (s.line n).queue := by
  simp only [healthCounted, if_neg served]
  split
  · rw [setLine_line_same]; rfl
  · rw [post_line, setLine_line_same]; rfl

/-- The queue laws of the line hold behind the health counting. -/
theorem frameHealth_fits (fits : QueueFits s n) (running : (s.line n).running = true) :
    QueueFits (frameHealth n result s) n := by
  by_cases lost : (healthAfter s n result).1 = .lost
  · rw [frameHealth_of_lost running lost, departService_eq_departed (frameCounts_fits fits)]
    exact departed_fits n _ _ _
  · rw [frameHealth_eq running]
    exact (frameWork_fits fits).congr (healthCounted_queue _ lost) (healthCounted_of_served _ lost).1

/-- The cause of a line that a frame takes to LOST. -/
theorem departCauses_frameCounts (n : LineNo) (d : Departure) (result : FrameResult) (s : State) :
    departCauses (frameCounts n result s) n d = departCauses s n d :=
  departCauses_congr d (by rw [frameCounts_line, Line.withCounts, frameWork_line]; rfl)
    (lineLost_mem_frameWork n result s)

/-- The causes after the health counting: the position unit's, and the cause of a SAFETY line that is LOST. -/
theorem frameHealth_faults (running : (s.line n).running = true) :
    (frameHealth n result s).faults = s.faults ++ continuityCauses s n result ++
      (if (healthAfter s n result).1 = .lost ∧ (s.line n).profile.safety = true ∧ .lineLost n ∉ s.faults then
        [.lineLost n] else []) := by
  rw [← frameWork_faults]
  by_cases lost : (healthAfter s n result).1 = .lost
  · rw [frameHealth_of_lost running lost, departService_faults, departCauses_frameCounts, departCauses]
    simp only [lost, true_and]
    rfl
  · rw [frameHealth_eq running, (healthCounted_of_served _ lost).2, if_neg fun h => lost h.1, List.append_nil]

/-- The contexts after the health counting: as the service engine left them, failed at an entry to LOST. -/
theorem frameHealth_ctx (fits : QueueFits s n) (running : (s.line n).running = true) (c : CtxNo) :
    (frameHealth n result s).ctx c =
      if (healthAfter s n result).1 = .lost then failedContext n .lineLost ((serviceFrameEnd n result s).ctx c)
      else (serviceFrameEnd n result s).ctx c := by
  rw [← (frameWork_served n result s).1]
  split
  · next lost =>
    rw [frameHealth_of_lost running lost, departService_eq_departed (frameCounts_fits fits), departed_ctx]
    rfl
  · next served => rw [frameHealth_eq running, State.ctx, (healthCounted_of_served _ served).1]; rfl

/-- The events of a frame that takes its line to LOST. -/
theorem frameHealth_posts_of_lost (fits : QueueFits s n) (running : (s.line n).running = true)
    (lost : (healthAfter s n result).1 = .lost) :
    Posts (departEvents (serviceFrameEnd n result s) n .lost .failures (s.line n).pos.preset.isSome)
      (frameWork n result s) (frameHealth n result s) := by
  have posts := departService_posts (frameCounts_fits (result := result) fits) .lost .failures
  have preset : ((frameCounts n result s).line n).pos.preset = (s.line n).pos.preset := by
    rw [frameCounts_line, Line.withCounts, frameWork_line]
    exact (posAfter_preset s n result).trans (if_neg (not_good_of_lost running lost))
  have same : departEvents (frameCounts n result s) n .lost .failures (s.line n).pos.preset.isSome =
      departEvents (serviceFrameEnd n result s) n .lost .failures (s.line n).pos.preset.isSome := by
    refine departEvents_congr _ _ (frameWork_served n result s).1 ?_ ?_
    · rw [frameCounts_line, Line.withCounts, frameWork_line, serviceFrameEnd_line]; rfl
    · rw [departCauses_frameCounts]
      exact (departCauses_congr _ (by rw [serviceFrameEnd_line])
        (by rw [(serviceFrameEnd_serviceOnly n result s).faults])).symm
  rw [preset, same, ← frameHealth_of_lost running lost] at posts
  exact posts

/-- The events of the health counting. -/
theorem frameHealth_posts (fits : QueueFits s n) (running : (s.line n).running = true) :
    Posts (healthEvents s n result) (frameWork n result s) (frameHealth n result s) := by
  unfold healthEvents
  by_cases same : (healthAfter s n result).1 = (s.line n).state
  · rw [if_pos same, frameHealth_eq running, healthCounted_of_same (same.trans (frameWork_state n result s).symm)]
    exact .none rfl rfl
  · rw [if_neg same]
    obtain run | degraded | lost := expectedHealth_cases (expectedStatus s n result = .good) running
    · rw [run, frameHealth_eq running, healthCounted_of_changed (by rwa [frameWork_state]) (by simp [run]), run]
      exact post_posts _ ((frameWork n result s).setLine n _)
    · rw [degraded, frameHealth_eq running, healthCounted_of_changed (by rwa [frameWork_state]) (by simp [degraded]),
        degraded]
      exact post_posts _ ((frameWork n result s).setLine n _)
    · rw [lost]
      exact frameHealth_posts_of_lost fits running lost

end FrameHealth

end Sys2Proof.Machine
end

section
/-! PROOFS. A running frame end behind its health counting: the completion (R83), the deferred disable (R31), and all
its events in order. -/

namespace Sys2Proof.Machine

/-! ## The completion (R83, R96, R97) -/

/-- A completion posts one event, by HOLD. -/
theorem completeCycle_posts (s : State) :
    Posts [if s.banks.hold then .cycleUnpublished s.banks.backId else .cycleDone s.banks.backId] s
      (completeCycle s) := by
  simp only [completeCycle, updBack_backId]
  split <;> exact ⟨rfl, rfl⟩

/-- A record written posts the completion that it makes. -/
theorem recordWritten_posts (n : LineNo) (s : State) : Posts (completionEvents s n) s (recordWritten n s) := by
  simp only [completionEvents, recordWritten, Bool.and_eq_true, decide_eq_true_eq, List.contains_iff_mem,
    List.isEmpty_iff]
  by_cases active : s.cycle.state = .active ∧ n ∈ s.cycle.outstanding
  · by_cases last : s.cycle.outstanding.filter (· ≠ n) = []
    · rw [if_pos ⟨active.1, active.2, last⟩, if_pos active, if_pos last]
      exact completeCycle_posts { s with cycle := { s.cycle with outstanding := s.cycle.outstanding.filter (· ≠ n) } }
    · rw [if_neg fun h => last h.2.2, if_pos active, if_neg last]
      exact ⟨rfl, rfl⟩
  · rw [if_neg fun h => active ⟨h.1, h.2.1⟩, if_neg active]
    exact .refl s

/-- The event of a completion reads the cycle unit, HOLD and the front selection. -/
theorem completionEvents_congr {s t : State} (n : LineNo) (cycle : t.cycle = s.cycle)
    (hold : t.banks.hold = s.banks.hold) (front : t.banks.front = s.banks.front) :
    completionEvents t n = completionEvents s n := by
  simp only [completionEvents, BankUnit.backId, cycle, hold, front]

/-! ## The frame end up to its deferred disable -/

section FrameTold

variable {s : State} {n : LineNo} {result : FrameResult}

/-- The frame end up to its deferred disable: the record written, and the cycle unit told. -/
def frameTold (n : LineNo) (result : FrameResult) (s : State) : State := recordWritten n (frameRecord n result s)

theorem frameTold_told (n : LineNo) (result : FrameResult) (s : State) :
    Told (frameRecord n result s) (frameTold n result s) :=
  recordWritten_told n _

theorem frameTold_line (n : LineNo) (result : FrameResult) (s : State) :
    (frameTold n result s).line n = (frameRecord n result s).line n :=
  (frameTold_told n result s).line n

/-- The record and the cycle leave the contexts and the fault cause set. -/
theorem frameTold_frame (n : LineNo) (result : FrameResult) (s : State) :
    (frameTold n result s).service = (frameHealth n result s).service ∧
      (frameTold n result s).faults = (frameHealth n result s).faults := by
  have frame := (frameTold_told n result s).frame
  exact ⟨by rw [frame]; rfl, by rw [frame]; rfl⟩

theorem frameTold_ctx (n : LineNo) (result : FrameResult) (s : State) (c : CtxNo) :
    (frameTold n result s).ctx c = (frameHealth n result s).ctx c := by
  simp only [State.ctx, (frameTold_frame n result s).1]

/-- The record is written in silence, and the cycle unit tells of a completion. -/
theorem frameTold_posts (n : LineNo) (result : FrameResult) (s : State) :
    Posts (completionEvents s n) (frameHealth n result s) (frameTold n result s) := by
  have told := recordWritten_posts n (frameRecord n result s)
  obtain ⟨-, -, -, -, hold, -⟩ := (frameRecord_lineWork n result s).only
  rw [completionEvents_congr n (frameRecord_cycle n result s) hold (frameRecord_front n result s)] at told
  exact Posts.trans (.none rfl rfl) told

/-- The queue laws of the line hold before its deferred disable. -/
theorem frameTold_fits (fits : QueueFits s n) (running : (s.line n).running = true) :
    QueueFits (frameTold n result s) n := by
  refine (frameHealth_fits (result := result) fits running).congr ?_ (frameTold_frame n result s).1
  rw [frameTold_line, frameRecord, writeRecord_line]
  rfl

/-- The preset that a deferred disable finds: none behind an entry to LOST, and none behind a good frame. -/
theorem frameTold_preset (running : (s.line n).running = true) :
    ((frameTold n result s).line n).pos.preset =
      if (healthAfter s n result).1 = .lost ∨ expectedStatus s n result = .good then none
      else (s.line n).pos.preset := by
  rw [frameTold_line, frameRecord_pos running, posAfter_preset]
  by_cases lost : (healthAfter s n result).1 = .lost
  · simp [lost]
  · simp [lost]

/-- Behind an entry to LOST no context waits for the line. -/
theorem frameTold_departing_of_lost (fits : QueueFits s n) (running : (s.line n).running = true)
    (lost : (healthAfter s n result).1 = .lost) : departing (frameTold n result s) n = [] := by
  refine List.eq_nil_iff_forall_not_mem.mpr fun c waits => ?_
  rw [mem_departing (frameTold_fits fits running), frameTold_ctx, frameHealth_ctx fits running, if_pos lost] at waits
  exact failedContext_not_waitsFor n _ _ waits

/-! ## The deferred disable behind a running frame (R31) -/

/-- A running frame end is the frame told and its deferred disable. -/
theorem runningEnd_eq_deferred (n : LineNo) (result : FrameResult) (s : State) :
    runningEnd n result s = deferredDisable n (frameTold n result s) :=
  runningEnd_eq n result s

theorem frameTold_disablePending (running : (s.line n).running = true) :
    ((frameTold n result s).line n).disablePending = (s.line n).disablePending := by
  rw [frameTold_line, frameRecord_disablePending running]

/-- A departure to OFF raises no cause. -/
theorem departCauses_off (s : State) (n : LineNo) : departCauses s n .off = [] := by
  simp [departCauses]

/-- A deferred disable raises no cause. -/
theorem deferredDisable_faults (n : LineNo) (s : State) : (deferredDisable n s).faults = s.faults := by
  cases pending : (s.line n).disablePending with
  | true => rw [deferredDisable_of_pending pending, departService_faults, departCauses_off, List.append_nil]; rfl
  | false => rw [deferredDisable_of_not_pending pending]

/-- A deferred disable posts its departure. -/
theorem deferredDisable_posts_of_pending {u : State} (fits : QueueFits u n)
    (pending : (u.line n).disablePending = true) :
    Posts (departEvents u n .off .disabled (u.line n).pos.preset.isSome) u (deferredDisable n u) := by
  have posts := departService_posts fits.clearPending .off .disabled
  rw [departEvents_congr (s := u) (t := u.setLine n { u.line n with disablePending := false }) .disabled _
    (fun _ => rfl) (by rw [setLine_line_same]) (by rw [departCauses_off, departCauses_off]), setLine_line_same] at posts
  rw [deferredDisable_of_pending pending]
  exact posts

/-- The events of a deferred disable behind a running frame. -/
theorem frameDeferred_posts (fits : QueueFits s n) (running : (s.line n).running = true) :
    Posts (deferredEvents s n result) (frameTold n result s) (runningEnd n result s) := by
  have still := frameTold_disablePending (result := result) running
  rw [runningEnd_eq_deferred, deferredEvents]
  cases pending : (s.line n).disablePending with
  | false =>
    rw [deferredDisable_of_not_pending (still.trans pending)]
    exact .refl _
  | true =>
    have posts := deferredDisable_posts_of_pending (frameTold_fits (result := result) fits running)
      (still.trans pending)
    have preset := frameTold_preset (result := result) running
    by_cases lost : (healthAfter s n result).1 = .lost
    · rw [if_pos (.inl lost)] at preset
      have idle := frameTold_departing_of_lost (result := result) fits running lost
      rw [departing] at idle
      rw [preset, departEvents, idle, departCauses_off] at posts
      rw [if_neg (by decide), if_pos lost]
      exact posts
    · have armed : ((frameTold n result s).line n).pos.preset.isSome =
          decide (expectedStatus s n result ≠ .good ∧ (s.line n).pos.preset.isSome) := by
        rw [preset]
        by_cases good : expectedStatus s n result = .good <;> simp [good, lost]
      have same : departEvents (frameTold n result s) n .off .disabled
            (decide (expectedStatus s n result ≠ .good ∧ (s.line n).pos.preset.isSome)) =
          departEvents (serviceFrameEnd n result s) n .off .disabled
            (decide (expectedStatus s n result ≠ .good ∧ (s.line n).pos.preset.isSome)) := by
        refine departEvents_congr _ _ (fun c => ?_) ?_ (by rw [departCauses_off, departCauses_off])
        · rw [frameTold_ctx, frameHealth_ctx fits running, if_neg lost]
        · rw [frameTold_line, frameRecord, writeRecord_line, serviceFrameEnd_line]
          show ((frameHealth n result s).line n).queue = _
          rw [frameHealth_eq running, healthCounted_queue _ lost, frameWork_line]
          rfl
      rw [armed, same] at posts
      rw [if_neg (by decide), if_neg lost]
      exact posts

/-- All the events of a running frame end, in order (R36, R83, R142). -/
theorem runningEnd_posts (fits : QueueFits s n) (running : (s.line n).running = true) :
    Posts (positionEvents s n result ++ serviceEvents s n result ++ healthEvents s n result ++
      completionEvents s n ++ deferredEvents s n result) s (runningEnd n result s) :=
  (((frameWork_posts n result s).trans (frameHealth_posts fits running)).trans (frameTold_posts n result s)).trans
    (frameDeferred_posts fits running)

/-- The contexts of a line that leaves service by a running frame end (R153). -/
theorem runningEnd_ctx_of_away (fits : QueueFits s n) (running : (s.line n).running = true)
    (away : ((runningEnd n result s).line n).state.inService = false) (c : CtxNo) :
    (runningEnd n result s).ctx c =
      failedContext n (if (healthAfter s n result).1 = .lost then .lineLost else .lineOff)
        ((serviceFrameEnd n result s).ctx c) := by
  have still := frameTold_disablePending (result := result) running
  have health := frameHealth_ctx (result := result) fits running c
  rw [← frameTold_ctx] at health
  rw [runningEnd_eq_deferred]
  cases pending : (s.line n).disablePending with
  | false =>
    have lost : (healthAfter s n result).1 = .lost := by
      by_contra served
      rw [(runningEnd_inService running).mpr ⟨pending, served⟩] at away
      cases away
    rw [deferredDisable_of_not_pending (still.trans pending), health, if_pos lost, if_pos lost]
  | true =>
    rw [deferredDisable_of_pending (still.trans pending),
      departService_eq_departed (frameTold_fits fits running).clearPending, departed_ctx, setLine_ctx, health]
    split
    · exact failedContext_of_not_waitsFor _ (failedContext_not_waitsFor n _ _)
    · rfl

end FrameTold

/-! ## The line that a running frame end leaves (R31, R40, R41) -/

/-- A departed line holds no queue, owes no ABORT and has no preset. -/
def Line.Emptied (l : Line) : Prop := l.queue = [] ∧ l.abortOwed = false ∧ l.pos.preset = none

theorem left_emptied (l : Line) (d : Departure) : (l.left d).Emptied := ⟨rfl, rfl, rfl⟩

/-- A line whose health is LOST is emptied. -/
theorem counted_emptied {l : Line} {good : Bool} (lost : (expectedHealth l good).1 = .lost) :
    (l.counted good).Emptied := by
  simp only [Line.counted, if_pos lost]
  exact left_emptied _ _

theorem counted_counts (l : Line) (good : Bool) :
    ((l.counted good).failures, (l.counted good).goodRun) = (expectedHealth l good).2 := by
  simp only [Line.counted]
  split <;> rfl

theorem deferred_counts (l : Line) : (l.deferred.failures, l.deferred.goodRun) = (l.failures, l.goodRun) := by
  unfold Line.deferred
  split <;> rfl

/-- A line that a running frame end takes out of service is emptied. -/
theorem runningEnd_emptied {s : State} {n : LineNo} {result : FrameResult} (running : (s.line n).running = true)
    (away : ((runningEnd n result s).line n).state.inService = false) :
    ((runningEnd n result s).line n).Emptied := by
  rw [runningEnd_line, Line.deferred, frameRecord_disablePending running]
  cases pending : (s.line n).disablePending with
  | true => exact left_emptied _ _
  | false =>
    have lost : (healthAfter s n result).1 = .lost := by
      by_contra served
      rw [(runningEnd_inService running).mpr ⟨pending, served⟩] at away
      cases away
    have emptied : (((frameWork n result s).line n).counted (expectedStatus s n result = .good)).Emptied :=
      counted_emptied (by rwa [expectedHealth_frameWork])
    rw [frameRecord_line running]
    generalize (frameWork n result s).line n = l at emptied
    exact emptied

/-- The counts that a running frame end leaves are those of the health counting. -/
theorem frameRecord_counts {s : State} {n : LineNo} {result : FrameResult} (running : (s.line n).running = true) :
    (((frameRecord n result s).line n).failures, ((frameRecord n result s).line n).goodRun) =
      (healthAfter s n result).2 := by
  have counts := counted_counts ((frameWork n result s).line n) (expectedStatus s n result = .good)
  rw [expectedHealth_frameWork] at counts
  rw [frameRecord_line running]
  generalize (frameWork n result s).line n = l at counts
  exact counts

/-- Settles O23: the line by its health counting and its deferred disable, the causes and the events by the steps of the
frame end in order. -/
theorem healthFollowsTheSampleStatus : Obligations.HealthFollowsTheSampleStatus := by
  intro s n f samples frame result health reason
  have ⟨_, running, _, _⟩ := frame
  have line := runningEnd_line n result s
  refine ⟨runningEnd n result s, exec_runningFrameEnd samples frame, ?_, ?_, ?_, ?_, runningEnd_emptied running,
    fun queue active => ⟨runningEnd_ctx_of_away (queueFits_of_laws queue active n) running,
      (runningEnd_posts (queueFits_of_laws queue active n) running).2⟩⟩
  · rw [line, deferred_ring, frameRecord_line running]; rfl
  · rw [line, deferred_state, frameRecord_disablePending running, frameRecord_state running]
  · rw [line, deferred_counts, frameRecord_counts running]
  · rw [runningEnd_eq_deferred, deferredDisable_faults, (frameTold_frame n result s).2, frameHealth_faults running]

end Sys2Proof.Machine
end

section
/-! PROOFS. Decoding and the signed difference (R47 to R49, R55). -/

namespace Sys2Proof.Machine

/-! ## Decoding (R47 to R49) -/

/-- One bit more of conversion adds one shifted copy of the raw value. -/
theorem fromReflected_succ (w raw : Nat) : fromReflected (w + 1) raw = fromReflected w raw ^^^ (raw >>> w) := by
  simp [fromReflected, List.range_succ]

/-- A conversion of a value of `w` bits stays one. -/
theorem fromReflected_lt {w raw : Nat} (h : raw < 2 ^ w) (k : Nat) : fromReflected k raw < 2 ^ w := by
  induction k with
  | zero => exact Nat.two_pow_pos w
  | succ k ih =>
    rw [fromReflected_succ]
    exact Nat.xor_lt_two_pow ih (Nat.lt_of_le_of_lt (Nat.shiftRight_le raw k) h)

/-- The copies of a conversion cancel against those of the conversion one place lower, all but the first and the
last. -/
theorem fromReflected_xor_half (w raw : Nat) :
    fromReflected w raw ^^^ (fromReflected w raw >>> 1) = raw ^^^ (raw >>> w) := by
  induction w with
  | zero => simp [fromReflected]
  | succ w ih =>
    calc fromReflected (w + 1) raw ^^^ (fromReflected (w + 1) raw >>> 1)
        = (fromReflected w raw ^^^ (fromReflected w raw >>> 1)) ^^^ ((raw >>> w) ^^^ (raw >>> (w + 1))) := by
          rw [fromReflected_succ, Nat.shiftRight_xor_distrib, Nat.shiftRight_add]
          ac_rfl
      _ = raw ^^^ (raw >>> (w + 1)) := by
          rw [ih, Nat.xor_assoc, ← Nat.xor_assoc (raw >>> w), Nat.xor_self, Nat.zero_xor]

/-- Each bit of a conversion is the exclusive-or of the bit above it and the raw bit (R48). -/
theorem fromReflected_testBit {w raw : Nat} (h : raw < 2 ^ w) (i : Nat) :
    (fromReflected w raw).testBit i = ((fromReflected w raw).testBit (i + 1) ^^ raw.testBit i) := by
  have cancel := congrArg (Nat.testBit · i) (fromReflected_xor_half w raw)
  simp only [Nat.shiftRight_eq_zero raw w h, Nat.xor_zero, Nat.testBit_xor, Nat.testBit_shiftRight,
    Nat.add_comm 1 i] at cancel
  rw [← cancel]
  cases (fromReflected w raw).testBit i <;> simp

/-- The decoded raw value is a value of W bits. -/
theorem decodeRaw_lt {p : Profile} {raw : Nat} (h : raw < 2 ^ p.width) : decodeRaw p raw < 2 ^ p.width := by
  simp only [decodeRaw]
  split
  · exact Nat.mod_lt _ (Nat.two_pow_pos _)
  · split
    · exact fromReflected_lt h _
    · exact h

/-- Settles O24: the plain binary value is the conversion, bit by bit, and `invertValue` acts on it. -/
theorem rawValueDecoding : Obligations.RawValueDecoding := by
  intro p raw h
  refine ⟨if p.reflected then fromReflected p.width raw else raw, ?_, fun reflected => ?_, fun plain => ?_,
    fun invert => ?_, fun upright => ?_⟩
  · split
    · exact fromReflected_lt h _
    · exact h
  · simp only [reflected, if_true]
    refine ⟨fun i top => ?_, fun i _ => fromReflected_testBit h i⟩
    rw [fromReflected_testBit h, top, Nat.testBit_lt_two_pow (fromReflected_lt h _), Bool.false_xor]
  · simp [plain]
  · simp only [decodeRaw, invert, if_true, invertValue]
    exact ⟨trivial, fun zero => by simp [zero], fun _ => Nat.mod_eq_of_lt (by have := Nat.two_pow_pos p.width; omega)⟩
  · simp [decodeRaw, upright]

/-! ## The signed difference (R55) -/

/-- The signed difference leads from the one value to the other. -/
theorem signedDelta_congr (w prev r : Nat) : ((prev : Int) + signedDelta w prev r - r) % 2 ^ w = 0 := by
  have back : (prev : Int) - r + ((r : Int) - prev) % 2 ^ w =
      2 ^ w * -(((r : Int) - prev) / 2 ^ w) := by
    have := Int.emod_add_mul_ediv ((r : Int) - prev) (2 ^ w)
    linarith
  refine Int.emod_eq_zero_of_dvd ?_
  simp only [signedDelta]
  split
  · exact ⟨-(((r : Int) - prev) / 2 ^ w) - 1, by linarith⟩
  · exact ⟨-(((r : Int) - prev) / 2 ^ w), by linarith⟩

/-- Settles O25: the difference modulo 2^W, less the whole circle from half of it on. -/
theorem signedDeltaIsTheShortestMovement : Obligations.SignedDeltaIsTheShortestMovement := by
  intro w prev r positive
  obtain ⟨k, rfl⟩ : ∃ k, w = k + 1 := ⟨w - 1, by omega⟩
  have half : (0 : Int) < 2 ^ k := by positivity
  have circle : (2 : Int) ^ (k + 1) = 2 * 2 ^ k := pow_succ' 2 k
  refine ⟨?_, signedDelta_congr (k + 1) prev r, fun opposite => ?_⟩
  · have low := Int.emod_nonneg ((r : Int) - prev) (b := 2 ^ (k + 1)) (by positivity)
    have high := Int.emod_lt_of_pos ((r : Int) - prev) (b := 2 ^ (k + 1)) (by positivity)
    simp only [signedDelta, Nat.add_sub_cancel]
    split
    · constructor <;> linarith
    · constructor <;> linarith
  · have moved : ((r : Int) - prev) % 2 ^ (k + 1) = 2 ^ k := by
      have : (r : Int) - prev = 2 ^ k := by rw [opposite]; push_cast [Nat.add_sub_cancel]; ring
      rw [this]
      exact Int.emod_eq_of_lt half.le (by linarith)
    simp only [signedDelta, moved, Nat.add_sub_cancel, le_refl, if_true]
    linarith

end Sys2Proof.Machine
end

section
/-! PROOFS. A judged sample at a running frame end, case by case (R53 to R58, R63), and the events that it posts before
all others (R60, R67). -/

namespace Sys2Proof.Machine

/-! ## A preset behind a trusted sample (R63) -/

@[simp] theorem settled_anchored (u : PositionUnit) : u.settled.anchored = u.anchored := by
  cases h : u.preset <;> simp [PositionUnit.settled, PositionUnit.takePreset, h]

@[simp] theorem settled_extended (u : PositionUnit) : u.settled.extended = u.extended := by
  cases h : u.preset <;> simp [PositionUnit.settled, PositionUnit.takePreset, h]

@[simp] theorem settled_rPrev (u : PositionUnit) : u.settled.rPrev = u.rPrev := by
  cases h : u.preset <;> simp [PositionUnit.settled, PositionUnit.takePreset, h]

@[simp] theorem settled_age (u : PositionUnit) : u.settled.age = u.age := by
  cases h : u.preset <;> simp [PositionUnit.settled, PositionUnit.takePreset, h]

/-- The axis position of a preset taken is its value. -/
theorem takePreset_axis {u : PositionUnit} (anchored : u.anchored = true) (value : Count48) :
    (u.takePreset value).axis = some value := by
  have sum : u.extended + (value - u.extended) = value := by rw [BitVec.add_comm, BitVec.sub_add_cancel]
  simp [PositionUnit.axis, PositionUnit.takePreset, anchored, sum]

/-- A trusted sample that leaves the preset and the offset settles them as the statements say. -/
theorem presetSettled_settled {before u : PositionUnit} (preset : u.preset = before.preset)
    (offset : u.offset = before.offset) (anchored : u.anchored = true) :
    presetSettled before u.settled u.continuity := by
  unfold presetSettled
  cases armed : before.preset with
  | none => rw [settled_of_none (preset.trans armed)]; exact ⟨offset, rfl, preset.trans armed⟩
  | some value =>
    rw [settled_of_some (preset.trans armed)]
    exact ⟨takePreset_axis anchored value, rfl, rfl⟩

/-- The offset stands until a preset is taken. -/
theorem trust_offset (u : PositionUnit) (p : Profile) (case : SampleCase) (r : Nat) :
    (u.trust p case r).offset = u.offset := by
  cases case <;> rfl

/-! ## The case of a sample (R53) -/

section Judged

variable {s : State} {n : LineNo} {samples : List Bool} {l raw : Nat} {ew : ErrWrn} {reply : Slot}

theorem caseOf_of_unanchored (raw : Nat) (h : (s.line n).pos.anchored = false) : caseOf s n raw = .firstAnchor := by
  simp [judgeSample, h]

theorem caseOf_of_gap (raw : Nat) (anchored : (s.line n).pos.anchored = true) (gap : gapOf s n) :
    caseOf s n raw = .gapSample :=
  (judgeSample_eq_gap_iff _ _ _).mpr ⟨anchored, (isGap_eq_true_iff s n).mpr gap⟩

theorem caseOf_of_jump (anchored : (s.line n).pos.anchored = true) (steady : ¬gapOf s n)
    (far : (s.line n).profile.jumpLimit.toNat < (deltaOf s n raw).natAbs) : caseOf s n raw = .jump := by
  simp only [caseOf, judgeSample, isGap_eq_true_iff]
  rw [if_neg (by simp [anchored]), if_neg steady, if_pos far]

theorem caseOf_of_near (anchored : (s.line n).pos.anchored = true) (steady : ¬gapOf s n)
    (near : (deltaOf s n raw).natAbs ≤ (s.line n).profile.jumpLimit.toNat) : caseOf s n raw = .accepted := by
  simp only [caseOf, judgeSample, isGap_eq_true_iff]
  rw [if_neg (by simp [anchored]), if_neg steady, if_neg (Nat.not_lt.mpr near)]

/-! ## The frame end of a judged sample -/

/-- The dispatch runs the end of a judged frame with its result. -/
theorem exec_of_judged (h : JudgedFrame s n samples l raw ew reply) :
    exec (.runningFrameEnd n samples) s = .next (runningEnd n (.checkOk l raw ew reply) s) := by
  obtain ⟨⟨f, frame, ok⟩, -⟩ := h
  rw [exec_runningFrameEnd samples frame, ok]

theorem running_of_judged (h : JudgedFrame s n samples l raw ew reply) : (s.line n).running = true := by
  obtain ⟨⟨f, ⟨-, running, -⟩, -⟩, -⟩ := h
  exact running

theorem expectedStatus_of_judged (h : JudgedFrame s n samples l raw ew reply) :
    expectedStatus s n (.checkOk l raw ew reply) = if (caseOf s n raw).trusted then .good else .jump :=
  expectedStatus_of_sample s n l raw reply h.2

theorem good_of_trusted (h : JudgedFrame s n samples l raw ew reply) (trusted : (caseOf s n raw).trusted = true) :
    expectedStatus s n (.checkOk l raw ew reply) = .good := by
  rw [expectedStatus_of_judged h, if_pos trusted]

theorem jump_of_not_trusted (h : JudgedFrame s n samples l raw ew reply)
    (untrusted : (caseOf s n raw).trusted = false) : expectedStatus s n (.checkOk l raw ew reply) = .jump := by
  rw [expectedStatus_of_judged h, untrusted, if_neg (by decide)]

/-- The position unit moved by a trusted sample, before a preset is taken. -/
def movedPos (s : State) (n : LineNo) (raw : Nat) (ew : ErrWrn) : PositionUnit :=
  PositionUnit.trust { (s.line n).pos with reference := ew } (s.line n).profile (caseOf s n raw) (decodedOf s n raw)

/-- A trusted sample leaves its line with the anchor state moved and a preset taken. -/
theorem runningEnd_pos_of_trusted (h : JudgedFrame s n samples l raw ew reply)
    (trusted : (caseOf s n raw).trusted = true) :
    ((runningEnd n (.checkOk l raw ew reply) s).line n).pos = (movedPos s n raw ew).settled := by
  have good := good_of_trusted h trusted
  have pos : posAfter s n (.checkOk l raw ew reply) = (movedPos s n raw ew).settled := by
    simp only [posAfter, good, if_true]; rfl
  rw [runningEnd_pos (running_of_judged h), pos, settled_preset, ite_self, ← settled_preset (movedPos s n raw ew)]

/-- A sample that is not trusted leaves its line's anchor state, and its preset while the line stays in service. -/
theorem runningEnd_pos_of_jump (h : JudgedFrame s n samples l raw ew reply)
    (untrusted : (caseOf s n raw).trusted = false) :
    let k := (runningEnd n (.checkOk l raw ew reply) s).line n
    k.pos = { (s.line n).pos with
      reference := ew, preset := if k.state.inService then (s.line n).pos.preset else none } := by
  intro k
  have pos := posAfter_of_not_good (s := s) (n := n) (result := .checkOk l raw ew reply) (ew := ew) rfl
    (by rw [jump_of_not_trusted h untrusted]; decide)
  rw [runningEnd_pos (running_of_judged h), pos]

/-- The newest entry of the ring after a running frame end is that of the frame (R106). -/
theorem runningEnd_head {result : FrameResult} (running : (s.line n).running = true) :
    ((runningEnd n result s).line n).ring.entries.head? =
      some { cycle := s.cycle.number, status := expectedStatus s n result,
             extended := if expectedStatus s n result = .good then some (posAfter s n result).extended else none,
             errWrn := result.errWrn, latency := result.latency } := by
  rw [runningEnd_line, deferred_ring, frameRecord_line running]
  rfl

/-- A trusted sample moves the anchor state and leaves the preset settled with the continuity of its case. -/
theorem presetSettled_of_trusted (h : JudgedFrame s n samples l raw ew reply)
    (trusted : (caseOf s n raw).trusted = true) (anchored : (movedPos s n raw ew).anchored = true) :
    presetSettled (s.line n).pos ((runningEnd n (.checkOk l raw ew reply) s).line n).pos
      (movedPos s n raw ew).continuity := by
  rw [runningEnd_pos_of_trusted h trusted]
  exact presetSettled_settled (trust_preset _ _ _ _) (trust_offset _ _ _ _) anchored

/-! ## The events behind those of the position unit -/

/-- Whatever the contexts hold, a health counting only posts. -/
theorem healthCounted_posts_some (n : LineNo) (health : LineState × Nat × Nat) (s : State) :
    ∃ infos, Posts infos s (healthCounted n health s) := by
  simp only [healthCounted]
  split
  · exact ⟨[], .none rfl rfl⟩
  · split
    · obtain ⟨after, posts⟩ := departService_posts_first n .lost .failures
        (s.setLine n ((s.line n).withCounts health.2))
      exact ⟨_, posts⟩
    · exact ⟨_, post_posts _ (s.setLine n _)⟩

/-- Whatever the contexts hold, a running frame end posts the events of the position unit first. -/
theorem runningEnd_posts_first {result : FrameResult} (running : (s.line n).running = true) :
    ∃ after, Posts (positionEvents s n result ++ after) s (runningEnd n result s) := by
  obtain ⟨health, counted⟩ := healthCounted_posts_some n (healthAfter s n result) (frameWork n result s)
  obtain ⟨disable, deferred⟩ := deferredDisable_posts_some n (frameTold n result s)
  rw [← frameHealth_eq running] at counted
  rw [← runningEnd_eq_deferred] at deferred
  have all := (((frameWork_posts n result s).trans counted).trans (frameTold_posts n result s)).trans deferred
  simp only [List.append_assoc] at all
  exact ⟨_, all⟩

/-- The fault causes that a running frame adds for its continuity stay. -/
theorem mem_runningEnd_faults {result : FrameResult} (running : (s.line n).running = true) {x : FaultCause}
    (h : x ∈ s.faults ++ continuityCauses s n result) : x ∈ (runningEnd n result s).faults := by
  rw [runningEnd_eq_deferred, deferredDisable_faults, (frameTold_frame n result s).2, frameHealth_faults running]
  exact List.mem_append_left _ h

end Judged

/-! ## The four cases -/

/-- Settles O26: the first anchor is trusted, and its preset is taken on the count that it sets. -/
theorem firstAnchorSetsTheCount : Obligations.FirstAnchorSetsTheCount := by
  intro s n samples l raw ew reply judged unanchored
  have first := caseOf_of_unanchored raw unanchored
  have trusted : (caseOf s n raw).trusted = true := by rw [first]; rfl
  have moved : movedPos s n raw ew = { (s.line n).pos with
      reference := ew, rPrev := BitVec.ofNat 40 (decodedOf s n raw), age := 0, anchored := true
      extended := BitVec.ofNat 48 (decodedOf s n raw), continuity := .valid } := by
    rw [movedPos, first]; rfl
  have settled := presetSettled_of_trusted judged trusted (by rw [moved])
  rw [moved] at settled
  refine ⟨_, exec_of_judged judged, ?_, ?_, ?_, ?_, settled⟩
  all_goals rw [runningEnd_pos_of_trusted judged trusted, moved]; simp

/-- Settles O27: a gap sample is trusted; its events are those of the position unit, and its cause stays in the set. -/
theorem gapSampleEndsContinuity : Obligations.GapSampleEndsContinuity := by
  intro s n samples l raw ew reply judged anchored gap continuity
  have kind := caseOf_of_gap raw anchored gap
  have trusted : (caseOf s n raw).trusted = true := by rw [kind]; rfl
  have good := good_of_trusted judged trusted
  have running := running_of_judged judged
  have moved : movedPos s n raw ew = { (s.line n).pos with
      reference := ew, rPrev := BitVec.ofNat 40 (decodedOf s n raw), age := 0
      extended := (s.line n).pos.extended + BitVec.ofInt 48 (deltaOf s n raw), continuity := .uncertain } := by
    rw [movedPos, kind]
    cases held : (s.line n).pos.continuity with
    | none => exact absurd held continuity
    | valid => simp [PositionUnit.trust, held]
    | uncertain => simp [PositionUnit.trust, held]
  have settled := presetSettled_of_trusted judged trusted (by rw [moved]; exact anchored)
  have ends : EndsContinuity s n (.checkOk l raw ew reply) ↔ (s.line n).pos.continuity = .valid := by
    simp only [EndsContinuity, good, anchored, true_and]
    exact and_iff_right gap
  obtain ⟨after, -, entries⟩ := runningEnd_posts_first (result := .checkOk l raw ew reply) running
  rw [moved] at settled
  refine ⟨_, after, exec_of_judged judged, ?_, ?_, ?_, settled, fun valid safety => ?_, ?_⟩
  · rw [runningEnd_pos_of_trusted judged trusted, moved, settled_extended]
  · rw [runningEnd_pos_of_trusted judged trusted, moved, settled_rPrev]
  · rw [runningEnd_pos_of_trusted judged trusted, moved, settled_age]
  · refine mem_runningEnd_faults running ?_
    rw [continuityCauses_eq, if_pos (ends.mpr valid), continuityCause]
    by_cases known : FaultCause.continuity n ∈ s.faults <;> simp [known, safety]
  · have cause : (continuityCause s n).map EventInfo.faultRaised =
        if (s.line n).profile.safety = true ∧ .continuity n ∉ s.faults then [.faultRaised (.continuity n)] else [] := by
      unfold continuityCause
      split <;> rfl
    rw [entries, positionEvents_eq]
    simp only [ends, good, true_and, cause, FrameResult.errWrn, List.append_assoc, List.cons_append, List.nil_append]

/-- Whether a sample is judged without a gap, as the statements write it. -/
theorem not_gapOf {s : State} {n : LineNo} (young : (s.line n).pos.age ≤ (s.line n).profile.gapLimit.toNat)
    (seen : (s.line n).pos.age ≠ 255) : ¬gapOf s n := by
  rintro (old | never)
  · omega
  · exact seen never

/-- Settles O28: a jump is not trusted, so only the reference of the position unit moves. -/
theorem jumpLeavesTheAnchorState : Obligations.JumpLeavesTheAnchorState := by
  intro s n samples l raw ew reply judged anchored young seen far
  have kind := caseOf_of_jump anchored (not_gapOf young seen) far
  have untrusted : (caseOf s n raw).trusted = false := by rw [kind]; rfl
  have jump := jump_of_not_trusted judged untrusted
  have head := runningEnd_head (result := .checkOk l raw ew reply) (running_of_judged judged)
  have pos := runningEnd_pos_of_jump judged untrusted
  simp only [jump, reduceCtorEq, if_false] at head
  refine ⟨_, _, exec_of_judged judged, ?_, ?_, ?_, ?_, ?_, ?_, fun served => ?_, head, rfl, rfl⟩
  · rw [pos]; exact anchored
  · rw [pos]
  · rw [pos]
  · rw [pos]
  · rw [pos]
  · rw [pos]
  · rw [pos, if_pos served]

/-- Settles O29: a sample that moves no further than the limit is trusted. -/
theorem acceptedSampleMovesTheCount : Obligations.AcceptedSampleMovesTheCount := by
  intro s n samples l raw ew reply judged anchored young seen near
  have kind := caseOf_of_near anchored (not_gapOf young seen) near
  have trusted : (caseOf s n raw).trusted = true := by rw [kind]; rfl
  have good := good_of_trusted judged trusted
  have moved : movedPos s n raw ew = { (s.line n).pos with
      reference := ew, rPrev := BitVec.ofNat 40 (decodedOf s n raw), age := 0
      extended := (s.line n).pos.extended + BitVec.ofInt 48 (deltaOf s n raw) } := by
    rw [movedPos, kind]; rfl
  have settled := presetSettled_of_trusted judged trusted (by rw [moved]; exact anchored)
  have running := running_of_judged judged
  have head := runningEnd_head (result := .checkOk l raw ew reply) running
  simp only [good, if_true] at head
  rw [moved] at settled
  refine ⟨_, _, exec_of_judged judged, ?_, ?_, ?_, ?_, settled, head, rfl, ?_⟩
  · rw [runningEnd_pos_of_trusted judged trusted, moved, settled_anchored]; exact anchored
  · rw [runningEnd_pos_of_trusted judged trusted, moved, settled_extended]
  · rw [runningEnd_pos_of_trusted judged trusted, moved, settled_rPrev]
  · rw [runningEnd_pos_of_trusted judged trusted, moved, settled_age]
  · rw [runningEnd_pos running]

end Sys2Proof.Machine
end

section
/-! PROOFS. The commands of the position units (R61, R62, R64). -/

namespace Sys2Proof.Machine

/-- The dispatch hands SET_PRESET to its owner. -/
theorem exec_setPreset_of_high {s : State} (high : s.resetLow = false) :
    exec .setPreset s = .next (takeCommand 0x18 (withLine setPreset) s) :=
  whileRunning_of_high high _

/-- The dispatch hands CANCEL_PRESET to its owner. -/
theorem exec_cancelPreset_of_high {s : State} (high : s.resetLow = false) :
    exec .cancelPreset s = .next (takeCommand 0x19 (withLine cancelPreset) s) :=
  whileRunning_of_high high _

/-- The dispatch hands ACK_CONTINUITY to its owner. -/
theorem exec_ackContinuity_of_high {s : State} (high : s.resetLow = false) :
    exec .ackContinuity s = .next (takeCommand 0x1A (withLine ackContinuity) s) :=
  whileRunning_of_high high _

/-- A line is in service in every state but OFF and LOST (section 2.3). -/
theorem inService_eq_false_iff (x : LineState) : x.inService = false ↔ x = .off ∨ x = .lost := by
  cases x <;> simp [LineState.inService]

/-! ## What the owners answer -/

theorem setPreset_of_away {s : State} {n : LineNo} (away : (s.line n).state.inService = false) :
    setPreset n s = refuse .wrongState s := by
  simp [setPreset, away]

theorem setPreset_of_served {s : State} {n : LineNo} (served : (s.line n).state.inService = true) :
    setPreset n s =
      accept (if (s.line n).pos.preset.isSome then 1 else 0)
        (s.setLine n { s.line n with pos := { (s.line n).pos with preset := some s.argPreset } }) :=
  if_pos served

theorem cancelPreset_of_none {s : State} {n : LineNo} (idle : (s.line n).pos.preset = none) :
    cancelPreset n s = refuse .wrongState s := by
  simp [cancelPreset, idle]

theorem cancelPreset_of_armed {s : State} {n : LineNo} (armed : (s.line n).pos.preset ≠ none) :
    cancelPreset n s = accept 0 (s.setLine n { s.line n with pos := { (s.line n).pos with preset := none } }) :=
  if_pos (Option.isSome_iff_ne_none.mpr armed)

theorem ackContinuity_of_uncertain {s : State} {n : LineNo} (uncertain : (s.line n).pos.continuity = .uncertain) :
    ackContinuity n s = accept 0 (s.setLine n { s.line n with pos := { (s.line n).pos with continuity := .valid } }) :=
  if_pos uncertain

theorem ackContinuity_of_other {s : State} {n : LineNo} (other : (s.line n).pos.continuity ≠ .uncertain) :
    ackContinuity n s = refuse .wrongState s :=
  if_neg other

/-- Settles O30: each answer through the owner's own. -/
theorem presetAndContinuityCommands : Obligations.PresetAndContinuityCommands := by
  intro s high
  rw [exec_setPreset_of_high high, exec_cancelPreset_of_high high, exec_ackContinuity_of_high high]
  refine ⟨fun out => ⟨?_, ?_, ?_⟩, fun n h => ⟨fun away => ?_, fun on kept => ?_, fun idle => ?_, fun armed => ?_,
    fun uncertain => ?_, fun other => ?_⟩⟩
  · rw [takeCommand_refuse (withLine_of_ge 0x18 _ out)]; rfl
  · rw [takeCommand_refuse (withLine_of_ge 0x19 _ out)]; rfl
  · rw [takeCommand_refuse (withLine_of_ge 0x1A _ out)]; rfl
  · rw [takeCommand_withLine_refuse (code := 0x18) h (setPreset_of_away ((inService_eq_false_iff _).mpr away))]; rfl
  · have served : (s.line n).state.inService = true := by
      rw [← Bool.not_eq_false, inService_eq_false_iff]
      exact fun away => away.elim on kept
    rw [takeCommand_withLine_accept (code := 0x18) h (setPreset_of_served served)]
    cases preset : (s.line n).pos.preset <;> simp [preset] <;> rfl
  · rw [takeCommand_withLine_refuse (code := 0x19) h (cancelPreset_of_none idle)]; rfl
  · rw [takeCommand_withLine_accept (code := 0x19) h (cancelPreset_of_armed armed)]; rfl
  · rw [takeCommand_withLine_accept (code := 0x1A) h (ackContinuity_of_uncertain uncertain)]; rfl
  · rw [takeCommand_withLine_refuse (code := 0x1A) h (ackContinuity_of_other other)]; rfl

end Sys2Proof.Machine
end

section
/-! PROOFS. The running frames of a cycle start (R36, R138 to R141): what the choice of a request slot reads and writes,
and what the frames of several lines started one after the other leave. -/

namespace Sys2Proof.Machine

/-! ## The choice of a request slot as an effect (R138 to R141) -/

/-- What the choice of a request slot does: the slot sent, the slot-in-flight record, the context that it advances, and
how many contexts it takes from the head of the line's queue. -/
structure SlotEffect where
  slot : Slot
  inFlight : SlotInFlight
  written : Option (CtxNo × ContextBody)
  taken : Nat

/-- The body of a context replaced, where there is one to replace. -/
def State.written (s : State) : Option (CtxNo × ContextBody) → State
  | none => s
  | some (c, b) => s.setBody c b

/-- The state that the effect of a choice for line `n` leaves. -/
def SlotEffect.apply (e : SlotEffect) (n : LineNo) (s : State) : State :=
  (s.written e.written).setLine n { s.line n with queue := (s.line n).queue.drop e.taken, slot := e.inFlight }

@[simp] theorem written_line (s : State) (w : Option (CtxNo × ContextBody)) (n : LineNo) :
    (s.written w).line n = s.line n := by
  obtain _ | ⟨c, b⟩ := w <;> rfl

@[simp] theorem SlotEffect.apply_line (e : SlotEffect) (n : LineNo) (s : State) :
    (e.apply n s).line n = { s.line n with queue := (s.line n).queue.drop e.taken, slot := e.inFlight } := by
  simp [SlotEffect.apply]

theorem SlotEffect.apply_ctx (e : SlotEffect) (n : LineNo) (s : State) (c : CtxNo) :
    (e.apply n s).ctx c = (s.written e.written).ctx c := rfl

/-- State `u` shows the choice for line `n` what state `s` shows it: the ABORT owed, the line's queue, its ACTIVE
context, and the contexts that stand there. -/
structure SlotSame (n : LineNo) (s u : State) : Prop where
  owed : (u.line n).abortOwed = (s.line n).abortOwed
  queue : (u.line n).queue = (s.line n).queue
  active : u.activeCtx n = s.activeCtx n
  ctx : ∀ c ∈ departing s n, u.ctx c = s.ctx c

theorem SlotSame.refl (n : LineNo) (s : State) : SlotSame n s s := ⟨rfl, rfl, rfl, fun _ _ => rfl⟩

/-- The choice is one effect on all states that show it the same; a context that it writes is the line's ACTIVE one, or
the QUEUED one at the head of its queue, and is ACTIVE for the same line then. -/
theorem chooseSlot_effect (n : LineNo) (s : State) :
    ∃ e : SlotEffect, (∀ u, SlotSame n s u → chooseSlot n u = (e.slot, e.apply n u)) ∧
      (e.written = none ∧ e.taken = 0 ∨
        (∃ c r p q, e.written = some (c, .active r q) ∧ e.taken = 0 ∧ ActiveOn s n c r p) ∨
        ∃ c r q, e.written = some (c, .active r q) ∧ e.taken = 1 ∧ (s.line n).queue.head? = some c ∧
          (s.ctx c).body = .queued r) := by
  have sends (slot : Slot) (x : SlotInFlight) (u : State) :
      (slot, u.setSlot n x) = (slot, (SlotEffect.mk slot x none 0).apply n u) := rfl
  by_cases owed : (s.line n).abortOwed = true
  · exact ⟨⟨.abort, .abort, none, 0⟩, fun u h => by rw [chooseSlot, h.owed, if_pos owed, sends], .inl ⟨rfl, rfl⟩⟩
  obtain idle | ⟨c, r, p, active⟩ := activeCtx_cases s n
  · cases queue : (s.line n).queue with
    | nil =>
      refine ⟨⟨.idle, .idle, none, 0⟩, fun u h => ?_, .inl ⟨rfl, rfl⟩⟩
      simp only [chooseSlot, h.owed, if_neg owed, h.active, idle, h.queue, queue, sends]
    | cons c rest =>
      have stands (u : State) (h : SlotSame n s u) : u.ctx c = s.ctx c := h.ctx c (by simp [departing, queue])
      by_cases queued : ∃ r, (s.ctx c).body = .queued r
      · obtain ⟨r, body⟩ := queued
        refine ⟨⟨.first (r.nibble 0), .nibble c 0 1,
          some (c, .active r { attempts := 1, framesUsed := 0, phase := .sending 0 }), 1⟩, fun u h => ?_,
          .inr (.inr ⟨c, r, _, rfl, rfl, rfl, body⟩)⟩
        simp only [chooseSlot, h.owed, if_neg owed, h.active, idle, h.queue, queue, stands u h, body]
        simp [SlotEffect.apply, State.written, State.setSlot, State.updLine, h.queue, queue]
      · refine ⟨⟨.idle, .idle, none, 0⟩, fun u h => ?_, .inl ⟨rfl, rfl⟩⟩
        simp only [chooseSlot, h.owed, if_neg owed, h.active, idle, h.queue, queue, stands u h]
        cases body : (s.ctx c).body with
        | queued r => exact absurd ⟨r, body⟩ queued
        | free => rfl
        | active r p => rfl
        | finished r a x => rfl
  · obtain ⟨found, body, onLine⟩ := id active
    have stands (u : State) (h : SlotSame n s u) : u.ctx c = s.ctx c := h.ctx c (by simp [departing, found])
    cases phase : p.phase with
    | sending i =>
      refine ⟨⟨.following (r.nibble i), .nibble c i p.attempts, none, 0⟩, fun u h => ?_, .inl ⟨rfl, rfl⟩⟩
      simp only [chooseSlot, h.owed, if_neg owed, h.active, found, stands u h, body, phase, sends]
    | awaiting w =>
      refine ⟨⟨.idle, .idle, none, 0⟩, fun u h => ?_, .inl ⟨rfl, rfl⟩⟩
      simp only [chooseSlot, h.owed, if_neg owed, h.active, found, stands u h, body, phase, sends]
    | receiving status expected nibbles =>
      refine ⟨⟨.idle, .idle, none, 0⟩, fun u h => ?_, .inl ⟨rfl, rfl⟩⟩
      simp only [chooseSlot, h.owed, if_neg owed, h.active, found, stands u h, body, phase, sends]
    | restarting =>
      refine ⟨⟨.first (r.nibble 0), .nibble c 0 (p.attempts + 1),
        some (c, .active r { p with attempts := p.attempts + 1, phase := .sending 0 }), 0⟩, fun u h => ?_,
        .inr (.inl ⟨c, r, p, _, rfl, rfl, active⟩)⟩
      simp only [chooseSlot, h.owed, if_neg owed, h.active, found, stands u h, body, phase]
      rfl

/-- The choice touches the queue and the slot in flight of its line, and nothing else of it. -/
theorem chooseSlot_line (n : LineNo) (s : State) :
    (chooseSlot n s).2.line n = { s.line n with
      queue := ((chooseSlot n s).2.line n).queue, slot := ((chooseSlot n s).2.line n).slot } := by
  obtain ⟨e, he, -⟩ := chooseSlot_effect n s
  simp [he s (.refl n s)]

/-- The choice for line `n` makes of state `u` what it makes of state `s`. -/
structure SameChoice (n : LineNo) (s u : State) : Prop where
  slot : (chooseSlot n u).1 = (chooseSlot n s).1
  queue : ((chooseSlot n u).2.line n).queue = ((chooseSlot n s).2.line n).queue
  inFlight : ((chooseSlot n u).2.line n).slot = ((chooseSlot n s).2.line n).slot
  ctx : ∀ c, u.ctx c = s.ctx c → (chooseSlot n u).2.ctx c = (chooseSlot n s).2.ctx c

/-- States that show the choice the same get the same choice. -/
theorem SlotSame.sameChoice {n : LineNo} {s u : State} (h : SlotSame n s u) : SameChoice n s u := by
  obtain ⟨e, he, -⟩ := chooseSlot_effect n s
  constructor
  · rw [he u h, he s (.refl n s)]
  · simp [he u h, he s (.refl n s), h.queue]
  · simp [he u h, he s (.refl n s)]
  · intro c same
    rw [he u h, he s (.refl n s), SlotEffect.apply_ctx, SlotEffect.apply_ctx]
    obtain none' | ⟨d, b⟩ := e.written
    · exact same
    · show (u.setBody d b).ctx c = (s.setBody d b).ctx c
      rw [setBody_ctx, setBody_ctx]
      split
      · next here => rw [← here, same]
      · exact same

/-! ## The contexts that the choice of one line leaves to the others (R123, R124) -/

/-- A context waits for one line at most. -/
theorem waitsFor_unique {b : ContextBody} {n m : LineNo} (h : b.waitsFor n) (h' : b.waitsFor m) : n = m := by
  cases b <;> simp_all [ContextBody.waitsFor, ContextBody.activeOn, ContextBody.queuedOn]

/-- The contexts that the choice for a line looks at wait for the line. -/
theorem waitsFor_of_departing {s : State} {n : LineNo} (law : QueueLaw s) {c : CtxNo} (h : c ∈ departing s n) :
    (s.ctx c).body.waitsFor n := by
  obtain found | queued := List.mem_append.mp h
  · obtain ⟨r, p, body, onLine⟩ := activeCtx_some (Option.mem_toList.mp found)
    exact .inl (by simp [body, ContextBody.activeOn, onLine])
  · exact .inr (((law n).2 c).mp queued)

/-- Two states that show a line the same contexts, among those that wait for it in either state, have the same ACTIVE
context on it. -/
theorem activeCtx_of_waiting {s u : State} {n : LineNo}
    (h : ∀ c, (s.ctx c).body.waitsFor n ∨ (u.ctx c).body.waitsFor n → u.ctx c = s.ctx c) :
    u.activeCtx n = s.activeCtx n := by
  have active : ∀ v : State, v.activeCtx n = allCtxs.find? fun c => (v.ctx c).body.activeOn = some n := fun v => by
    refine congrArg (allCtxs.find? ·) (funext fun c => ?_)
    cases (v.ctx c).body <;> simp [ContextBody.activeOn]
  rw [active, active]
  refine congrArg (allCtxs.find? ·) (funext fun c => ?_)
  by_cases waits : (s.ctx c).body.waitsFor n ∨ (u.ctx c).body.waitsFor n
  · rw [h c waits]
  · obtain ⟨here, there⟩ := not_or.mp waits
    rw [decide_eq_false fun a => here (.inl a), decide_eq_false fun a => there (.inl a)]

section Choice

variable {s : State} {n : LineNo}

/-- The choice writes contexts that wait for its line and leaves them waiting for it; it takes at most the head of its
queue, which is then QUEUED no more. -/
theorem chooseSlot_contexts (law : QueueLaw s) (c : CtxNo) :
    ((s.ctx c).body.waitsFor n ↔ ((chooseSlot n s).2.ctx c).body.waitsFor n) ∧
      (¬(s.ctx c).body.waitsFor n → (chooseSlot n s).2.ctx c = s.ctx c) := by
  obtain ⟨e, he, kind⟩ := chooseSlot_effect n s
  rw [he s (.refl n s), SlotEffect.apply_ctx]
  obtain ⟨none', -⟩ | ⟨d, r, p, q, some', -, active⟩ | ⟨d, r, q, some', -, head, queued⟩ := kind
  · rw [none']
    exact ⟨.rfl, fun _ => rfl⟩
  · obtain ⟨-, body, onLine⟩ := active
    rw [some', State.written, setBody_ctx]
    split
    · next here =>
      rw [here, body]
      simp [ContextBody.waitsFor, ContextBody.activeOn, onLine]
    · exact ⟨.rfl, fun _ => rfl⟩
  · have onLine : r.line = n := by
      simpa [queued, ContextBody.queuedOn] using ((law n).2 d).mp (List.mem_of_head? head)
    rw [some', State.written, setBody_ctx]
    split
    · next here =>
      rw [here, queued]
      simp [ContextBody.waitsFor, ContextBody.activeOn, ContextBody.queuedOn, onLine]
    · exact ⟨.rfl, fun _ => rfl⟩

/-- The choice keeps the queue law (R123). -/
theorem chooseSlot_queueLaw (law : QueueLaw s) : QueueLaw (chooseSlot n s).2 := by
  have others := (chooseSlot_serviceOnly n s).others
  obtain ⟨e, he, kind⟩ := chooseSlot_effect n s
  have ctx (c : CtxNo) : (chooseSlot n s).2.ctx c = (s.written e.written).ctx c := by
    rw [he s (.refl n s), SlotEffect.apply_ctx]
  have queue : ((chooseSlot n s).2.line n).queue = (s.line n).queue.drop e.taken := by simp [he s (.refl n s)]
  intro m
  have kept (untaken : e.taken = 0) : ((chooseSlot n s).2.line m).queue = (s.line m).queue := by
    by_cases here : m = n
    · rw [here, queue, untaken, List.drop_zero]
    · rw [others m here]
  obtain ⟨once, queued⟩ := law m
  obtain ⟨none', taken⟩ | ⟨d, r, p, q, some', taken, -, body, -⟩ | ⟨d, r, q, some', taken, head, body⟩ := kind
  · rw [kept taken]
    exact ⟨once, fun c => by rw [ctx, none']; exact queued c⟩
  · rw [kept taken]
    refine ⟨once, fun c => (queued c).trans ?_⟩
    rw [ctx, some', State.written, setBody_ctx]
    split
    · next here => simp [here, body, ContextBody.queuedOn]
    · rfl
  · obtain ⟨rest, split'⟩ : ∃ rest, (s.line n).queue = d :: rest := by
      cases h : (s.line n).queue <;> simp_all
    have onLine : (s.ctx d).body.queuedOn = some n := ((law n).2 d).mp (List.mem_of_head? head)
    have after (c : CtxNo) : ((chooseSlot n s).2.ctx c).body.queuedOn =
        if c = d then none else (s.ctx c).body.queuedOn := by
      rw [ctx, some', State.written, setBody_ctx]
      split <;> rfl
    by_cases here : m = n
    · subst here
      rw [split'] at once queued
      obtain ⟨out, once⟩ := List.nodup_cons.mp once
      rw [queue, split', taken, List.drop_one, List.tail_cons]
      refine ⟨once, fun c => ?_⟩
      rw [after]
      split
      · next same => subst same; simpa using out
      · next other => rw [← queued c]; simp [other]
    · rw [others m here]
      refine ⟨once, fun c => (queued c).trans ?_⟩
      rw [after]
      split
      · next same => subst same; simp [onLine, Ne.symm here]
      · rfl

end Choice

/-! ## A running frame started (R36) -/

/-- A line with a running frame in flight, its queue and its slot in flight as the choice of the slot left them (R4,
R8). -/
def Line.framed (l : Line) (slot : Slot) (queue : List CtxNo) (inFlight : SlotInFlight) : Line :=
  { l with
    sub := .frame, queue := queue, slot := inFlight
    link := { l.link with
      watch := .none
      frame := some
        { slot := slot, deadline := min 31 (l.lMeas + l.profile.slack.toNat), multiturn := l.profile.multiturn,
          singleturn := l.profile.singleturn, rate := l.profile.rate } } }

/-- The line that the choice for it in state `s` leads to. -/
abbrev framedLine (s : State) (n : LineNo) : Line :=
  (s.line n).framed (chooseSlot n s).1 ((chooseSlot n s).2.line n).queue ((chooseSlot n s).2.line n).slot

theorem startRunningFrame_line (n : LineNo) (s : State) : (startRunningFrame n s).line n = framedLine s n :=
  calc (startRunningFrame n s).line n
      = ((chooseSlot n s).2.line n).startFrame (chooseSlot n s).1 ((chooseSlot n s).2.line n).deadline :=
        updLine_line_same _ n _
    _ = framedLine s n := by rw [chooseSlot_line]; rfl

/-- From `s` to `t` only lines and contexts change. -/
def LinesAndContexts (s t : State) : Prop :=
  t = { s with lines := t.lines, service := { s.service with contexts := t.service.contexts } }

theorem LinesAndContexts.trans {s t u : State} (h : LinesAndContexts s t) (k : LinesAndContexts t u) :
    LinesAndContexts s u := by
  unfold LinesAndContexts at *
  rw [k, h]

theorem startRunningFrame_linesAndContexts (n : LineNo) (s : State) :
    LinesAndContexts s (startRunningFrame n s) := by
  have only := startRunningFrame_lineOnly n s
  have events : (startRunningFrame n s).events = s.events := chooseSlot_events n s
  have service : (startRunningFrame n s).service = _ := (chooseSlot_serviceOnly n s).service
  have faults : (startRunningFrame n s).faults = s.faults := (chooseSlot_serviceOnly n s).faults
  calc startRunningFrame n s
      = ⟨(startRunningFrame n s).resetLow, (startRunningFrame n s).lines, (startRunningFrame n s).cycle,
          (startRunningFrame n s).banks, (startRunningFrame n s).service, (startRunningFrame n s).events,
          (startRunningFrame n s).faults, (startRunningFrame n s).port, (startRunningFrame n s).pending⟩ := rfl
    _ = _ := by rw [only.resetLow, only.cycle, only.banks, service, events, faults, only.port, only.pending]

/-- A line whose frame starts takes its queue from its own contexts, so that the queue law is kept. -/
theorem startRunningFrame_queueLaw {s : State} (law : QueueLaw s) (n : LineNo) :
    QueueLaw (startRunningFrame n s) := by
  have kept := chooseSlot_queueLaw (n := n) law
  intro m
  by_cases here : m = n
  · subst here
    rw [startRunningFrame_line]
    exact kept m
  · rw [(startRunningFrame_lineOnly n s).others m here, ← (chooseSlot_serviceOnly n s).others m here]
    exact kept m

/-- A frame started for line `n` shows every other line what it saw before. -/
theorem startRunningFrame_sameChoice {s : State} (law : QueueLaw s) {n m : LineNo} (other : m ≠ n) :
    SameChoice m s (startRunningFrame n s) := by
  have line := (startRunningFrame_lineOnly n s).others m other
  have ctx : ∀ c, (s.ctx c).body.waitsFor m ∨ ((startRunningFrame n s).ctx c).body.waitsFor m →
      (startRunningFrame n s).ctx c = s.ctx c := by
    intro c waits
    obtain ⟨still, left⟩ := chooseSlot_contexts (n := n) law c
    refine left fun mine => ?_
    obtain here | there := waits
    · exact other (waitsFor_unique here mine)
    · exact other (waitsFor_unique there (still.mp mine))
  refine SlotSame.sameChoice ⟨by rw [line], by rw [line], activeCtx_of_waiting ctx, fun c mem => ?_⟩
  exact ctx c (.inl (waitsFor_of_departing law mem))

/-! ## The frames of several lines (R80) -/

/-- Running frames started for the lines of a list, one after the other. -/
def startFrames (ns : List LineNo) (s : State) : State := ns.foldl (fun s n => startRunningFrame n s) s

theorem startFrames_linesAndContexts (ns : List LineNo) (s : State) : LinesAndContexts s (startFrames ns s) := by
  induction ns generalizing s with
  | nil => rfl
  | cons n ns ih => exact (startRunningFrame_linesAndContexts n s).trans (ih _)

theorem startFrames_line_of_not_mem {ns : List LineNo} {m : LineNo} (out : m ∉ ns) (s : State) :
    (startFrames ns s).line m = s.line m := by
  induction ns generalizing s with
  | nil => rfl
  | cons n ns ih =>
    obtain ⟨ne, out⟩ := not_or.mp (List.mem_cons.not.mp out)
    exact (ih out _).trans ((startRunningFrame_lineOnly n s).others m ne)

/-- Each line of the list gets its frame, with some choice of slot, queue and slot in flight. -/
theorem startFrames_line_of_mem {ns : List LineNo} (once : ns.Nodup) {n : LineNo} (mem : n ∈ ns) (s : State) :
    ∃ slot queue inFlight, (startFrames ns s).line n = (s.line n).framed slot queue inFlight := by
  induction ns generalizing s with
  | nil => cases mem
  | cons m ns ih =>
    obtain ⟨out, once⟩ := List.nodup_cons.mp once
    obtain rfl | later := List.mem_cons.mp mem
    · exact ⟨_, _, _, (startFrames_line_of_not_mem out _).trans (startRunningFrame_line n s)⟩
    · have kept := (startRunningFrame_lineOnly m s).others n (ne_of_mem_of_not_mem later out)
      rw [← kept]
      exact ih once later _

/-- Under the queue law a context that waits for no line of the list is left. -/
theorem startFrames_ctx_of_not_waiting {ns : List LineNo} {s : State} (law : QueueLaw s) {c : CtxNo}
    (idle : ∀ n ∈ ns, ¬(s.ctx c).body.waitsFor n) : (startFrames ns s).ctx c = s.ctx c := by
  induction ns generalizing s with
  | nil => rfl
  | cons n ns ih =>
    have left : (startRunningFrame n s).ctx c = s.ctx c :=
      (chooseSlot_contexts law c).2 (idle n (List.mem_cons_self ..))
    refine (ih (startRunningFrame_queueLaw law n) fun m hm => ?_).trans left
    rw [left]
    exact idle m (List.mem_cons_of_mem n hm)

/-- Under the queue law each line of the list gets the frame that it would get alone, and so do the contexts that wait
for it (R139). -/
theorem startFrames_chosen {ns : List LineNo} (once : ns.Nodup) {n : LineNo} (mem : n ∈ ns) {s : State}
    (law : QueueLaw s) :
    (startFrames ns s).line n = framedLine s n ∧
      ∀ c, (s.ctx c).body.waitsFor n → (startFrames ns s).ctx c = (chooseSlot n s).2.ctx c := by
  induction ns generalizing s with
  | nil => cases mem
  | cons m ns ih =>
    obtain ⟨out, once⟩ := List.nodup_cons.mp once
    have law' := startRunningFrame_queueLaw law m
    obtain rfl | later := List.mem_cons.mp mem
    · refine ⟨(startFrames_line_of_not_mem out _).trans (startRunningFrame_line n s), fun c waits => ?_⟩
      refine startFrames_ctx_of_not_waiting (ns := ns) law' fun m hm there => ?_
      have mine := (chooseSlot_contexts (n := n) law c).1.mp waits
      exact out (waitsFor_unique mine there ▸ hm)
    · have other := ne_of_mem_of_not_mem later out
      have same := startRunningFrame_sameChoice law other
      have kept := (startRunningFrame_lineOnly m s).others n other
      obtain ⟨line, ctx⟩ := ih once later law'
      refine ⟨line.trans ?_, fun c waits => ?_⟩
      · rw [framedLine, framedLine, same.slot, same.queue, same.inFlight, kept]
      · have left : (startRunningFrame m s).ctx c = s.ctx c :=
          (chooseSlot_contexts law c).2 fun mine => other (waitsFor_unique waits mine)
        exact (ctx c (by rw [left]; exact waits)).trans (same.ctx c left)

end Sys2Proof.Machine
end

section
/-! PROOFS. A cycle start (R52, R78 to R80, R92, R93): its numbering, its frames, its missed records, and what a trigger
leaves of the part. -/

namespace Sys2Proof.Machine

/-! ## The records of the missed lines (R38, R80, R108) -/

/-- No velocity is formed behind an entry that is not GOOD (R113). -/
theorem velocityOf_append_of_not_good (p : Profile) (continuity : Continuity) (r : Ring) {e : SampleEntry}
    (h : e.status ≠ .good) : velocityOf p continuity (r.append e).entries = none := by
  have newest : (r.append e).entries[0]? = some e := by simp [Ring.append, Config.ringDepth]
  simp only [velocityOf, newest]
  split
  · next newest' oldest same _ =>
    obtain rfl := Option.some.inj same
    simp [h]
  · rfl

/-- The entry of a missed line in a cycle (R38, R106). -/
def missedEntry (cycle : BitVec 16) : SampleEntry :=
  { cycle := cycle, status := .missed, extended := none, errWrn := none, latency := none }

/-- The record of a missed line (R38, R90). -/
def missedRecord (l : Line) : LineRecord := reportRecord l .missed none none none

/-- A missed record: its entry in the ring, and the record in the back bank. -/
theorem writeMissed_eq (n : LineNo) (s : State) :
    writeMissed n s = { s.setLine n { s.line n with ring := (s.line n).ring.append (missedEntry s.cycle.number) } with
      banks := s.banks.updBack fun b => { b with records := b.records.set n (missedRecord (s.line n)) } } := by
  have line : (writeMissed n s).line n =
      { s.line n with ring := (s.line n).ring.append (missedEntry s.cycle.number) } := writeRecord_line n _ _ _ s
  have record : recordOf ((writeMissed n s).line n) .missed none none = missedRecord (s.line n) := by
    rw [line, recordOf, velocityOf_append_of_not_good _ _ _ (by simp [missedEntry])]
    rfl
  rw [← record]
  rfl

/-- The missed records of the lines of a list, one after the other. -/
def writeAllMissed (ns : List LineNo) (s : State) : State := ns.foldl (fun s n => writeMissed n s) s

/-- What the missed records leave: all but the lines and the records of the back bank. -/
structure RecordsOnly (s t : State) : Prop where
  frame : t = { s with lines := t.lines, banks := t.banks }
  banks : ∀ i, t.banks.bank i = { s.banks.bank i with records := (t.banks.bank i).records }
  front : t.banks.front = s.banks.front
  frontBank : t.banks.bank s.banks.front = s.banks.frontBank
  backStatus : t.banks.backStatus = s.banks.backStatus
  hold : t.banks.hold = s.banks.hold

theorem writeMissed_recordsOnly (n : LineNo) (s : State) : RecordsOnly s (writeMissed n s) where
  frame := rfl
  banks i := by
    rw [writeMissed, writeRecord_bank]
    split <;> rfl
  front := updBack_front _ _
  frontBank := updBack_frontBank _ _
  backStatus := updBack_backStatus _ _
  hold := updBack_hold _ _

theorem RecordsOnly.refl (s : State) : RecordsOnly s s := ⟨rfl, fun _ => rfl, rfl, rfl, rfl, rfl⟩

theorem RecordsOnly.trans {s t u : State} (h : RecordsOnly s t) (k : RecordsOnly t u) : RecordsOnly s u where
  frame := by rw [k.frame, h.frame]
  banks i := by rw [k.banks, h.banks]
  front := k.front.trans h.front
  frontBank := by rw [← h.front, k.frontBank, BankUnit.frontBank, h.front, h.frontBank]
  backStatus := k.backStatus.trans h.backStatus
  hold := k.hold.trans h.hold

theorem writeAllMissed_recordsOnly (ns : List LineNo) (s : State) : RecordsOnly s (writeAllMissed ns s) := by
  induction ns generalizing s with
  | nil => exact .refl s
  | cons n ns ih => exact (writeMissed_recordsOnly n s).trans (ih _)

theorem writeMissed_line (n m : LineNo) (s : State) :
    (writeMissed n s).line m =
      if m = n then { s.line m with ring := (s.line m).ring.append (missedEntry s.cycle.number) } else s.line m := by
  rw [writeMissed_eq]
  show (s.setLine n _).line m = _
  rw [setLine_line]
  split
  · next here => rw [here]
  · rfl

theorem writeMissed_record (n m : LineNo) (s : State) :
    (writeMissed n s).banks.backBank.records[m] =
      if m = n then missedRecord (s.line m) else s.banks.backBank.records[m] := by
  have back : (writeMissed n s).banks.backBank =
      { s.banks.backBank with records := s.banks.backBank.records.set n (missedRecord (s.line n)) } := by
    rw [writeMissed_eq]
    simp [BankUnit.backBank]
  rw [back]
  by_cases here : m = n
  · subst here; simp
  · have : n.val ≠ m.val := fun e => here (Fin.ext e.symm)
    simp [here, Vector.getElem_set_ne _ _ this]

/-- Each line of the list gets its entry and its record, and every other line keeps its own. -/
theorem writeAllMissed_line {ns : List LineNo} (once : ns.Nodup) (m : LineNo) (s : State) :
    ((writeAllMissed ns s).line m =
      if m ∈ ns then { s.line m with ring := (s.line m).ring.append (missedEntry s.cycle.number) } else s.line m) ∧
    (writeAllMissed ns s).banks.backBank.records[m] =
      if m ∈ ns then missedRecord (s.line m) else s.banks.backBank.records[m] := by
  induction ns generalizing s with
  | nil => exact ⟨rfl, rfl⟩
  | cons n ns ih =>
    obtain ⟨out, once⟩ := List.nodup_cons.mp once
    obtain ⟨line, record⟩ := ih once (writeMissed n s)
    have number : (writeMissed n s).cycle.number = s.cycle.number := rfl
    rw [writeMissed_line, number] at line
    rw [writeMissed_line, writeMissed_record] at record
    refine ⟨line.trans ?_, record.trans ?_⟩
    · by_cases here : m = n
      · subst here; simp [out]
      · simp [here]
    · by_cases here : m = n
      · subst here; simp [out]
      · simp [here]

/-! ## The numbering and the sets (R52, R78, R79) -/

theorem mem_allLines (n : LineNo) : n ∈ allLines := by fin_cases n <;> decide

theorem allLines_nodup : allLines.Nodup := by decide

/-- The lines that participate in a cycle that starts in a state. -/
def participants (s : State) : List LineNo := allLines.filter fun n => (s.line n).participates

/-- The lines that a cycle that starts in a state misses. -/
def missedLines (s : State) : List LineNo := allLines.filter fun n => (s.line n).isMissed

theorem mem_participants (s : State) (n : LineNo) : n ∈ participants s ↔ (s.line n).participates = true := by
  simp [participants, mem_allLines]

theorem mem_missedLines (s : State) (n : LineNo) :
    n ∈ missedLines s ↔ (s.line n).running = true ∧ (s.line n).participates = false := by
  simp [missedLines, mem_allLines, Line.isMissed]

theorem participants_nodup (s : State) : (participants s).Nodup := allLines_nodup.filter _

theorem missedLines_nodup (s : State) : (missedLines s).Nodup := allLines_nodup.filter _

theorem numberCycle_line (s : State) (n : LineNo) : (numberCycle s).line n = advanceAge (s.line n) :=
  updLines_line { s with cycle := { s.cycle with number := s.cycle.number + 1 } } advanceAge n

/-- The cycle numbered and its sets formed. -/
def cycleFormed (s : State) : State := formSets (numberCycle s)

@[simp] theorem cycleFormed_line (s : State) (n : LineNo) : (cycleFormed s).line n = advanceAge (s.line n) :=
  numberCycle_line s n

theorem cycleFormed_cycle (s : State) :
    (cycleFormed s).cycle = { s.cycle with
      number := s.cycle.number + 1, participating := participants s, outstanding := participants s } := by
  have same : (allLines.filter fun n => ((numberCycle s).line n).participates) = participants s :=
    List.filter_congr fun n _ => by rw [numberCycle_line]; rfl
  rw [← same]
  rfl

/-! ## The stages of a cycle start (R80) -/

/-- A cycle start up to its frames. -/
def cycleFrames (source : TriggerSource) (s : State) : State :=
  startFrames (participants s) (initialiseBack source (cycleFormed s))

/-- A cycle start up to its completion: the cycle is ACTIVE, its records of missed lines written. -/
def cycleActive (source : TriggerSource) (s : State) : State :=
  let recorded := writeAllMissed (missedLines s) (cycleFrames source s)
  { recorded with cycle := { recorded.cycle with state := .active } }

section CycleStart

variable {source : TriggerSource} {s : State}

theorem initialiseBack_cycle (source : TriggerSource) (s : State) :
    (initialiseBack source (cycleFormed s)).cycle = { s.cycle with
      number := s.cycle.number + 1, participating := participants s, outstanding := participants s } :=
  cycleFormed_cycle s

@[simp] theorem initialiseBack_line (source : TriggerSource) (s : State) (n : LineNo) :
    (initialiseBack source (cycleFormed s)).line n = advanceAge (s.line n) :=
  cycleFormed_line s n

theorem cycleFrames_linesAndContexts (source : TriggerSource) (s : State) :
    LinesAndContexts (initialiseBack source (cycleFormed s)) (cycleFrames source s) :=
  startFrames_linesAndContexts _ _

theorem cycleFrames_cycle (source : TriggerSource) (s : State) :
    (cycleFrames source s).cycle = { s.cycle with
      number := s.cycle.number + 1, participating := participants s, outstanding := participants s } := by
  rw [cycleFrames_linesAndContexts source s]
  exact initialiseBack_cycle source s

theorem cycleFrames_banks (source : TriggerSource) (s : State) :
    (cycleFrames source s).banks = (initialiseBack source (cycleFormed s)).banks := by
  rw [cycleFrames_linesAndContexts source s]

theorem cycleActive_recordsOnly (source : TriggerSource) (s : State) :
    RecordsOnly (cycleFrames source s) (writeAllMissed (missedLines s) (cycleFrames source s)) :=
  writeAllMissed_recordsOnly _ _

theorem cycleActive_cycle (source : TriggerSource) (s : State) :
    (cycleActive source s).cycle = { s.cycle with
      number := s.cycle.number + 1, state := .active, participating := participants s
      outstanding := participants s } := by
  have recorded : (writeAllMissed (missedLines s) (cycleFrames source s)).cycle = (cycleFrames source s).cycle := by
    rw [(cycleActive_recordsOnly source s).frame]
  simp only [cycleActive, recorded, cycleFrames_cycle]

/-- A cycle with no participating line completes at its start; any other runs on (R84). -/
theorem startCycle_eq (source : TriggerSource) (s : State) :
    startCycle source s =
      if participants s = [] then completeCycle (cycleActive source s) else cycleActive source s := by
  have missed : (allLines.filter fun n => ((cycleFormed s).line n).isMissed) = missedLines s :=
    List.filter_congr fun n _ => by rw [cycleFormed_line]; rfl
  have framed : ((initialiseBack source (cycleFormed s)).cycle.participating.foldl (fun s n => startRunningFrame n s)
      (initialiseBack source (cycleFormed s))) = cycleFrames source s := by
    rw [initialiseBack_cycle]; rfl
  have active : startCycle source s =
      if (cycleActive source s).cycle.participating.isEmpty then completeCycle (cycleActive source s)
      else cycleActive source s := by
    rw [cycleActive, ← missed, ← framed]; rfl
  rw [active, cycleActive_cycle]
  simp only [List.isEmpty_iff]

/-! ## The lines and the records of a cycle start -/

/-- A line while its cycle starts: a participating line's frame, or the line as it was, and behind it the entry of a
missed line. -/
theorem cycleActive_line (source : TriggerSource) (s : State) (n : LineNo) :
    (cycleActive source s).line n =
      if n ∈ missedLines s then
        { (cycleFrames source s).line n with
          ring := ((cycleFrames source s).line n).ring.append (missedEntry (s.cycle.number + 1)) }
      else (cycleFrames source s).line n := by
  have line := (writeAllMissed_line (missedLines_nodup s) n (cycleFrames source s)).1
  rwa [cycleFrames_cycle] at line

/-- A line that does not participate gets no frame. -/
theorem cycleFrames_line_of_idle {n : LineNo} (idle : (s.line n).participates = false) :
    (cycleFrames source s).line n = advanceAge (s.line n) := by
  rw [cycleFrames, startFrames_line_of_not_mem (by simp [mem_participants, idle]), initialiseBack_line]

/-- A missed line gets its entry. -/
theorem cycleActive_line_of_missed {n : LineNo} (running : (s.line n).running = true)
    (idle : (s.line n).participates = false) :
    (cycleActive source s).line n = { advanceAge (s.line n) with
      ring := (s.line n).ring.append (missedEntry (s.cycle.number + 1)) } := by
  rw [cycleActive_line, if_pos ((mem_missedLines s n).mpr ⟨running, idle⟩), cycleFrames_line_of_idle idle]
  rfl

/-- A line that does not run is left but for its AGE. -/
theorem cycleActive_line_of_away {n : LineNo} (away : (s.line n).running = false) :
    (cycleActive source s).line n = advanceAge (s.line n) := by
  have idle : (s.line n).participates = false := by simp [Line.participates, away]
  rw [cycleActive_line, if_neg (by simp [mem_missedLines, away]), cycleFrames_line_of_idle idle]

/-- The service engine sees in the formed cycle what it sees before (R139). -/
theorem initialiseBack_sameChoice (source : TriggerSource) (s : State) (n : LineNo) :
    SameChoice n s (initialiseBack source (cycleFormed s)) := by
  refine SlotSame.sameChoice ⟨?_, ?_, activeCtx_congr rfl n, fun _ _ => rfl⟩
  · rw [initialiseBack_line]; rfl
  · rw [initialiseBack_line]; rfl

theorem initialiseBack_queueLaw (law : QueueLaw s) (source : TriggerSource) :
    QueueLaw (initialiseBack source (cycleFormed s)) := fun n => by
  rw [initialiseBack_line]; exact law n

/-- A participating line gets its frame, under the queue law with the choice that is made for it alone. -/
theorem cycleActive_line_of_participates {n : LineNo} (mem : (s.line n).participates = true) :
    ∃ slot queue inFlight, (cycleActive source s).line n = (advanceAge (s.line n)).framed slot queue inFlight ∧
      (QueueLaw s → slot = (chooseSlot n s).1 ∧ queue = ((chooseSlot n s).2.line n).queue ∧
        inFlight = ((chooseSlot n s).2.line n).slot) := by
  have once := participants_nodup s
  have here := (mem_participants s n).mpr mem
  rw [cycleActive_line, if_neg (by simp [mem_missedLines, mem])]
  by_cases law : QueueLaw s
  · have same := initialiseBack_sameChoice source s n
    have line := (startFrames_chosen once here (initialiseBack_queueLaw law source)).1
    rw [framedLine, same.slot, same.queue, same.inFlight, initialiseBack_line] at line
    exact ⟨_, _, _, line, fun _ => ⟨rfl, rfl, rfl⟩⟩
  · obtain ⟨slot, queue, inFlight, line⟩ :=
      startFrames_line_of_mem once here (initialiseBack source (cycleFormed s))
    rw [initialiseBack_line] at line
    exact ⟨slot, queue, inFlight, line, fun holds => absurd holds law⟩

/-- Every line keeps its profile, and its position unit has its AGE advanced and is left otherwise (R52). -/
theorem cycleActive_profile_pos (source : TriggerSource) (s : State) (n : LineNo) :
    ((cycleActive source s).line n).profile = (s.line n).profile ∧
      ((cycleActive source s).line n).pos = (advanceAge (s.line n)).pos := by
  cases mem : (s.line n).participates with
  | true =>
    obtain ⟨slot, queue, inFlight, line, -⟩ := cycleActive_line_of_participates (source := source) mem
    rw [line]; exact ⟨rfl, rfl⟩
  | false =>
    cases running : (s.line n).running with
    | true => rw [cycleActive_line_of_missed running mem]; exact ⟨rfl, rfl⟩
    | false => rw [cycleActive_line_of_away running]; exact ⟨rfl, rfl⟩

theorem cycleActive_pos (source : TriggerSource) (s : State) (n : LineNo) :
    ((cycleActive source s).line n).pos = (advanceAge (s.line n)).pos :=
  (cycleActive_profile_pos source s n).2

/-- The bank that the cycle fills: its header, and the record of each line (R92, R93, R108). -/
theorem cycleActive_backBank (source : TriggerSource) (s : State) :
    ((cycleActive source s).banks.bank s.banks.backId).header = initialHeader (cycleFormed s) source ∧
      ∀ n : LineNo, ((cycleActive source s).banks.bank s.banks.backId).records[n] =
        reportRecord (advanceAge (s.line n)) (if n ∈ missedLines s then .missed else .notSampled) none none none := by
  have only := cycleActive_recordsOnly source s
  have front : (cycleFrames source s).banks.front = s.banks.front := by
    rw [cycleFrames_banks]; exact updBack_front _ _
  have backId : (cycleFrames source s).banks.backId = s.banks.backId := by simp only [BankUnit.backId, front]
  have back : (cycleFrames source s).banks.backBank =
      { header := initialHeader (cycleFormed s) source
        records := perLine fun n => initialRecord ((cycleFormed s).line n) } := by
    rw [cycleFrames_banks]
    show (BankUnit.bank _ (BankUnit.backId _)) = _
    exact (congrArg _ (updBack_backId _ _)).trans (updBack_backBank _ _)
  constructor
  · show ((writeAllMissed (missedLines s) (cycleFrames source s)).banks.bank s.banks.backId).header = _
    rw [only.banks, ← backId]
    exact congrArg Bank.header back
  · intro n
    have record := (writeAllMissed_line (missedLines_nodup s) n (cycleFrames source s)).2
    have shown : (writeAllMissed (missedLines s) (cycleFrames source s)).banks.backBank =
        (cycleActive source s).banks.bank s.banks.backId := by
      rw [← backId, BankUnit.backId, ← only.front]; rfl
    rw [shown, back] at record
    refine record.trans ?_
    split
    · next missed =>
      rw [cycleFrames_line_of_idle ((mem_missedLines s n).mp missed).2]
      rfl
    · simp only [Fin.getElem_fin, perLine_getElem, cycleFormed_line]
      rfl

end CycleStart

end Sys2Proof.Machine
end

section
/-! PROOFS. The triggers (R74 to R77): what a cycle start leaves of the part, whether or not its cycle completes at
once, and the three ways to start one. -/

namespace Sys2Proof.Machine

/-! ## A cycle start and its completion (R84, R96, R97) -/

/-- State `t` is state `a`, or what a completion makes of it: the lines and the contexts, HOLD and the front bank are
kept, and of the banks only a completion timestamp changes. -/
structure Closed (a t : State) : Prop where
  frame : t = { a with
    banks := t.banks, events := { a.events with entries := t.events.entries }
    cycle := { a.cycle with state := t.cycle.state } }
  hold : t.banks.hold = a.banks.hold
  bank : ∀ i, ∃ completed,
    t.banks.bank i = { a.banks.bank i with header := { (a.banks.bank i).header with completed := completed } }
  front : t.banks.bank a.banks.front = a.banks.frontBank

theorem Closed.refl (a : State) : Closed a a := ⟨rfl, rfl, fun _ => ⟨_, rfl⟩, rfl⟩

theorem closed_completeCycle (a : State) : Closed a (completeCycle a) where
  frame := by
    simp only [completeCycle]
    split <;> rfl
  hold := (completeCycle_told a).hold
  bank i := by
    rw [completeCycle_bank]
    split
    · exact ⟨_, rfl⟩
    · exact ⟨_, rfl⟩
  front := (completeCycle_told a).front

theorem Closed.line {a t : State} (h : Closed a t) (n : LineNo) : t.line n = a.line n := by rw [h.frame]; rfl

theorem Closed.ctx {a t : State} (h : Closed a t) (c : CtxNo) : t.ctx c = a.ctx c := by rw [h.frame]; rfl

theorem startCycle_closed (source : TriggerSource) (s : State) :
    Closed (cycleActive source s) (startCycle source s) := by
  rw [startCycle_eq]
  split
  · exact closed_completeCycle _
  · exact .refl _

/-! ## What a cycle start leaves -/

section CycleStart

variable {source : TriggerSource} {s : State}

/-- A cycle start up to its completion changes the lines, the contexts, the banks and the cycle unit. -/
theorem cycleActive_frame (source : TriggerSource) (s : State) :
    cycleActive source s = { s with
      lines := (cycleActive source s).lines, banks := (cycleActive source s).banks
      cycle := (cycleActive source s).cycle
      service := { s.service with contexts := (cycleActive source s).service.contexts } } := by
  have records := (cycleActive_recordsOnly source s).frame
  have frames : cycleFrames source s = _ := cycleFrames_linesAndContexts source s
  unfold cycleActive
  rw [records, frames]
  rfl

/-- The contexts while a cycle starts are those that its frames leave. -/
theorem cycleActive_ctx (source : TriggerSource) (s : State) (c : CtxNo) :
    (cycleActive source s).ctx c = (cycleFrames source s).ctx c := by
  have records := (cycleActive_recordsOnly source s).frame
  show (writeAllMissed (missedLines s) (cycleFrames source s)).ctx c = _
  rw [records]
  rfl

/-- The contexts that wait for a participating line are as the choice for it leaves them (R139, R140). -/
theorem cycleActive_ctx_of_waiting (law : QueueLaw s) {n : LineNo} (mem : (s.line n).participates = true) {c : CtxNo}
    (waits : (s.ctx c).body.waitsFor n) : (cycleActive source s).ctx c = (chooseSlot n s).2.ctx c := by
  obtain ⟨-, ctx⟩ := startFrames_chosen (participants_nodup s) ((mem_participants s n).mpr mem)
    (initialiseBack_queueLaw law source)
  rw [cycleActive_ctx]
  exact (ctx c waits).trans ((initialiseBack_sameChoice source s n).ctx c rfl)

/-- A context that waits for no participating line is left. -/
theorem cycleActive_ctx_of_not_waiting (law : QueueLaw s) {c : CtxNo}
    (idle : ∀ n, (s.line n).participates = true → ¬(s.ctx c).body.waitsFor n) :
    (cycleActive source s).ctx c = s.ctx c := by
  rw [cycleActive_ctx]
  exact startFrames_ctx_of_not_waiting (initialiseBack_queueLaw law source)
    fun n mem => idle n ((mem_participants s n).mp mem)

theorem cycleActive_front (source : TriggerSource) (s : State) :
    (cycleActive source s).banks.front = s.banks.front := by
  refine (cycleActive_recordsOnly source s).front.trans ?_
  rw [cycleFrames_banks]
  exact updBack_front _ _

theorem cycleActive_hold (source : TriggerSource) (s : State) :
    (cycleActive source s).banks.hold = s.banks.hold := by
  refine (cycleActive_recordsOnly source s).hold.trans ?_
  rw [cycleFrames_banks]
  exact updBack_hold _ _

/-- While its cycle starts the back bank is FILLING (R91). -/
theorem cycleActive_backStatus (source : TriggerSource) (s : State) :
    (cycleActive source s).banks.backStatus = .filling := by
  refine (cycleActive_recordsOnly source s).backStatus.trans ?_
  rw [cycleFrames_banks]
  rfl

theorem cycleActive_frontBank (source : TriggerSource) (s : State) :
    (cycleActive source s).banks.bank s.banks.front = s.banks.frontBank := by
  have front : (cycleFrames source s).banks.front = s.banks.front := by
    rw [cycleFrames_banks]; exact updBack_front _ _
  rw [← front]
  refine (cycleActive_recordsOnly source s).frontBank.trans ?_
  rw [BankUnit.frontBank, front, cycleFrames_banks]
  exact updBack_frontBank _ _

/-- The record of a line in the bank that the cycle fills, as the statements write it. -/
theorem cycleActive_record (source : TriggerSource) (s : State) (n : LineNo) :
    ((cycleActive source s).banks.bank s.banks.backId).records[n] =
      startRecord (s.line n) (if n ∈ missedLines s then .missed else .notSampled)
        ((cycleActive source s).line n).pos.age := by
  rw [(cycleActive_backBank source s).2, cycleActive_pos]
  rfl

/-- Whatever becomes of its cycle, a start leaves what the statements say. -/
theorem cycleStarted_of_closed {t : State} (closed : Closed (cycleActive source s) t) : CycleStarted source s t := by
  have line := closed.line
  have ctx := closed.ctx
  have cycle : t.cycle = { (cycleActive source s).cycle with state := t.cycle.state } := by rw [closed.frame]
  have frame := cycleActive_frame source s
  obtain ⟨completed, back⟩ := closed.bank s.banks.backId
  obtain ⟨header, -⟩ := cycleActive_backBank source s
  have record (n : LineNo) : (t.banks.bank s.banks.backId).records[n] =
      startRecord (s.line n) (if n ∈ missedLines s then .missed else .notSampled) (t.line n).pos.age := by
    rw [back, line, ← cycleActive_record]
  rw [cycleActive_cycle] at cycle
  rw [header] at back
  refine ⟨?_, fun n => ?_, ?_, fun n mem => ?_, fun n running idle => ?_, fun n away => ?_, ?_, ?_, ?_, ?_, ?_, ?_,
    fun law => ⟨fun n mem => ?_, fun c idle => ?_⟩⟩
  · rw [cycle]; rfl
  · rw [line, cycleActive_pos]; rfl
  · rw [back, cycle]
    simp only [initialHeader, cycleFormed_cycle, and_self]
  · obtain ⟨slot, queue, inFlight, framed, chosen⟩ := cycleActive_line_of_participates (source := source) mem
    refine ⟨slot, fun law => (chosen law).1, ?_, ?_⟩
    · rw [line, framed]; rfl
    · rw [record, if_neg (by simp [mem_missedLines, mem])]
  · have missed := (mem_missedLines s n).mpr ⟨running, idle⟩
    refine ⟨?_, by rw [record, if_pos missed]⟩
    rw [line, cycleActive_line_of_missed running idle]
    rfl
  · refine ⟨?_, by rw [record, if_neg (by simp [mem_missedLines, away])]⟩
    rw [line, cycleActive_line_of_away away]
    rfl
  · rw [← cycleActive_frontBank source s, ← cycleActive_front source s]
    exact closed.front
  · rw [closed.hold, cycleActive_hold]
  · rw [closed.frame, frame]
  · rw [closed.frame, frame]
  · rw [closed.frame, frame]
  · rw [closed.frame, frame]
  · obtain ⟨slot, queue, inFlight, framed, chosen⟩ := cycleActive_line_of_participates (source := source) mem
    obtain ⟨-, rfl, rfl⟩ := chosen law
    rw [line, framed]
    exact ⟨rfl, rfl, fun c waits => (ctx c).trans (cycleActive_ctx_of_waiting law mem waits)⟩
  · rw [ctx]
    exact cycleActive_ctx_of_not_waiting law fun n mem waits => waits.elim (idle n mem).1 (idle n mem).2

/-- A cycle start leaves what the statements say. -/
theorem startCycle_started (source : TriggerSource) (s : State) : CycleStarted source s (startCycle source s) :=
  cycleStarted_of_closed (startCycle_closed source s)

/-- A cycle with a participating line runs on (R79, R80, R91). -/
theorem startCycle_running (some' : participants s ≠ []) : CycleRunning s (startCycle source s) := by
  obtain ⟨header, -⟩ := cycleActive_backBank source s
  have backId : (cycleActive source s).banks.backId = s.banks.backId := by
    simp only [BankUnit.backId, cycleActive_front]
  rw [startCycle_eq, if_neg some']
  refine ⟨by rw [cycleActive_cycle], cycleActive_backStatus source s, cycleActive_front source s, ?_, ?_⟩
  · rw [BankUnit.backBank, backId, header]; rfl
  · rw [cycleActive_frame]

end CycleStart

/-! ## The triggers (R74 to R77) -/

/-- The state that a trigger finds: the period timer and the command port as the trigger leaves them. -/
abbrev State.triggered (s : State) (timer : PeriodTimer) (port : CommandPort) : State :=
  { s with cycle := { s.cycle with timer := timer }, port := port }

/-- The choice of a request slot reads neither the timer nor the port. -/
theorem triggered_sameChoice (s : State) (timer : PeriodTimer) (port : CommandPort) (n : LineNo) :
    SameChoice n s (s.triggered timer port) :=
  SlotSame.sameChoice ⟨rfl, rfl, activeCtx_congr rfl n, fun _ _ => rfl⟩

/-- What a cycle start leaves does not depend on the timer and the port that it finds. -/
theorem cycleStarted_of_triggered {source : TriggerSource} {s t : State} {timer : PeriodTimer} {port : CommandPort}
    (h : CycleStarted source (s.triggered timer port) t) : CycleStarted source s t := by
  have same := triggered_sameChoice s timer port
  obtain ⟨cycle, pos, header, framed, missed, away, front, hold, faults, reset, mask, service, chosen⟩ := h
  refine ⟨cycle, pos, header, fun n mem => ?_, missed, away, front, hold, faults, reset, mask, service,
    fun law => ⟨fun n mem => ?_, (chosen law).2⟩⟩
  · obtain ⟨slot, found, line⟩ := framed n mem
    exact ⟨slot, fun law => (found law).trans (same n).slot, line⟩
  · obtain ⟨queue, inFlight, ctx⟩ := (chosen law).1 n mem
    exact ⟨queue.trans (same n).queue, inFlight.trans (same n).inFlight,
      fun c waits => (ctx c waits).trans ((same n).ctx c rfl)⟩

/-- A trigger taken while STARTED and IDLE starts a cycle, with the timer and the port as it finds them. -/
theorem takeTrigger_starts {s : State} (source : TriggerSource) (timer : PeriodTimer) (port : CommandPort)
    (started : s.cycle.run = .started) (idle : s.cycle.state = .idle) :
    let t := takeTrigger source (s.triggered timer port)
    CycleStarted source s t ∧ (t.cycle.participating ≠ [] → CycleRunning s t) ∧ t.cycle.timer = timer ∧
      t.port = port := by
  intro t
  have starts : t = startCycle source (s.triggered timer port) := by
    simp only [t, takeTrigger, State.triggered, started, idle]
  have closed := startCycle_closed source (s.triggered timer port)
  have cycle := congrArg State.cycle closed.frame
  have port' := congrArg State.port closed.frame
  rw [← starts, cycleActive_cycle] at cycle
  rw [← starts, cycleActive_frame] at port'
  refine ⟨?_, fun some' => ?_, by rw [cycle], port'⟩
  · rw [starts]; exact cycleStarted_of_triggered (startCycle_started source _)
  · rw [cycle] at some'
    rw [starts]; exact startCycle_running (s := s.triggered timer port) some'

/-- Settles O32: each trigger is taken by the cycle unit, in the state that it makes of the timer and the port. -/
theorem triggersStartACycle : Obligations.TriggersStartACycle := by
  intro s high started idle
  refine ⟨fun sync => ?_, fun e timer due => ?_, ?_⟩
  · have run : exec .syncEdge s = .next (takeTrigger .sync s) := by
      have isSync : sourceOf s.cycle.sourceCode = some .sync := by rw [sync]; rfl
      simp [exec, execSyncEdge, whileRunning, high, syncEdge, started, isSync]
    exact ⟨_, run, takeTrigger_starts .sync s.cycle.timer s.port started idle⟩
  · exact ⟨_, exec_timerExpiry_of_counted high timer due,
      takeTrigger_starts .timer (.running (e - s.cycle.period.toNat)) s.port started idle⟩
  · have accepted : triggerCommand (s.taken 0x0A) = accept 0 (takeTrigger .host (s.taken 0x0A)) := by
      simp [triggerCommand, started, idle]
    have run : exec .trigger s = .next ((takeTrigger .host (s.taken 0x0A)).answer 0x0A .accepted 0) :=
      (whileRunning_of_high high _).trans (congrArg _ (takeCommand_accept accepted))
    obtain ⟨cycle, running, timer, port⟩ :=
      takeTrigger_starts .host s.cycle.timer { s.port with cmd := 0x0A } started idle
    exact ⟨_, run, cycle, running, timer,
      congrArg (fun p : CommandPort => { p with result := resultWord 0x0A .accepted, value := 0 }) port⟩

end Sys2Proof.Machine
end

section
/-! PROOFS. The law of the anchor state (R50): what it reads of a line, and that the work of a line keeps it. -/

namespace Sys2Proof.Machine

/-! ## The raw value of a judged frame (R9) -/

theorem natOfBits_lt (bits : List Bool) : natOfBits bits < 2 ^ bits.length := by
  induction bits using List.reverseRecOn with
  | nil => decide
  | append_singleton bits b ih =>
    rw [natOfBits_append, List.length_append, List.length_singleton, pow_succ]
    have := Bool.toNat_lt b
    omega

/-- The raw value of a frame has as many bits as the frame was asked for. -/
theorem raw_lt_of_checkOk {f : Frame} {samples : List Bool} {l raw : Nat} {ew : ErrWrn} {reply : Slot}
    (h : judgeFrame f samples = .checkOk l raw ew reply) : raw < 2 ^ (f.multiturn.toNat + f.singleturn.toNat) := by
  simp only [judgeFrame] at h
  split at h
  · cases h
  · split at h
    · cases h
    · split at h
      · obtain ⟨-, rfl, -, -⟩ := FrameResult.checkOk.inj h
        refine (natOfBits_lt _).trans_eq ?_
        rw [samplesFrom, List.length_map, List.length_range]
      · cases h

/-! ## The count moved by a signed difference (R54, R55, R58) -/

/-- A count that is `prev` modulo 2^W, moved by the signed difference from `prev` to `r`, is `r` modulo 2^W. -/
theorem moved_mod {n w : Nat} (narrow : w ≤ n) {count : BitVec n} {prev r : Nat}
    (anchor : count.toNat % 2 ^ w = prev) (fits : r < 2 ^ w) :
    (count + BitVec.ofInt n (signedDelta w prev r)).toNat % 2 ^ w = r := by
  have sum : ((count + BitVec.ofInt n (signedDelta w prev r)).toNat : Int) ≡
      count.toNat + signedDelta w prev r [ZMOD 2 ^ n] := by
    have positive : 0 ≤ signedDelta w prev r % 2 ^ n := Int.emod_nonneg _ (by positivity)
    rw [BitVec.toNat_add, BitVec.toNat_ofInt]
    push_cast
    rw [Int.toNat_of_nonneg positive]
    exact (Int.mod_modEq _ _).trans ((Int.mod_modEq _ _).add_left _)
  have start : (count.toNat : Int) ≡ prev [ZMOD 2 ^ w] := by
    rw [← anchor]
    push_cast
    exact (Int.mod_modEq _ _).symm
  have ended : (prev : Int) + signedDelta w prev r ≡ r [ZMOD 2 ^ w] :=
    (Int.modEq_iff_dvd.mpr (Int.dvd_of_emod_eq_zero (signedDelta_congr w prev r))).symm
  have whole := ((sum.of_dvd (pow_dvd_pow 2 narrow)).trans (start.add_right _)).trans ended
  have equal : _ ≡ r [MOD 2 ^ w] := Int.natCast_modEq_iff.mp (by exact_mod_cast whole)
  exact Eq.trans equal (Nat.mod_eq_of_lt fits)

/-! ## What the law reads of a line -/

/-- Line `k` has the profile and the anchor state of line `l`, whatever its preset and its reference. -/
def AnchorSame (l k : Line) : Prop :=
  k.profile = l.profile ∧ k.pos = { l.pos with preset := k.pos.preset, reference := k.pos.reference }

theorem AnchorSame.law {l k : Line} (h : AnchorSame l k) (law : l.AnchorLaw) : k.AnchorLaw := by
  obtain ⟨profile, pos⟩ := h
  unfold Line.AnchorLaw
  rw [profile, pos]
  exact law

theorem AnchorSame.trans {l k j : Line} (h : AnchorSame l k) (h' : AnchorSame k j) : AnchorSame l j :=
  ⟨h'.1.trans h.1, h'.2.trans (by rw [h.2])⟩

/-- States with the same lines keep the law. -/
theorem anchorLaw_congr {s t : State} (same : ∀ m, t.line m = s.line m) (law : AnchorLaw s) : AnchorLaw t :=
  fun m => by rw [same]; exact law m

/-- Work of one line keeps the law when that line meets it at the end. -/
theorem anchorLaw_of_lineOnly {n : LineNo} {s t : State} (only : LineOnly n s t) (law : AnchorLaw s)
    (line : (t.line n).AnchorLaw) : AnchorLaw t := fun m => by
  by_cases here : m = n
  · rwa [here]
  · rw [only.others m here]; exact law m

/-- A line replaced by one that meets the law. -/
theorem setLine_anchorLaw {n : LineNo} {s : State} {l : Line} (law : AnchorLaw s) (line : l.AnchorLaw) :
    AnchorLaw (s.setLine n l) :=
  anchorLaw_of_lineOnly (updLine_lineOnly n s fun _ => l) law (by rwa [setLine_line_same])

/-! ## The operations of a line keep its law -/

section AnchorLaw

variable {l : Line}

/-- AGE set to a value up to 255 where the line is anchored (R51, R52). -/
theorem anchor_withAge (law : l.AnchorLaw) {age : Nat} (le : age ≤ 255) (kept : l.pos.anchored = false → age = 255) :
    Line.AnchorLaw { l with pos := { l.pos with age := age } } := by
  obtain ⟨clear, follows, -⟩ := law
  refine ⟨fun un => ?_, follows, le⟩
  obtain ⟨offset, continuity, extended, rPrev, -⟩ := clear un
  exact ⟨offset, continuity, extended, rPrev, kept un⟩

/-- AGE advanced at a cycle start (R52). -/
theorem anchor_advanceAge (law : l.AnchorLaw) : (advanceAge l).AnchorLaw := by
  have ⟨clear, _, le⟩ := law
  refine anchor_withAge law (by unfold satSucc; split <;> simp [Config.ageLimit] at *; omega) fun un => ?_
  obtain ⟨-, -, -, -, age⟩ := clear un
  simp [satSucc, age, Config.ageLimit]

/-- AGE at an entry to PROBING (R51). -/
theorem anchor_enterProbing (law : l.AnchorLaw) (da : Bool) : (expectedProbingLine l da).AnchorLaw := by
  have ⟨clear, _, le⟩ := law
  refine AnchorSame.law (l := { l with pos := { l.pos with age := if l.pos.anchored then 255 else l.pos.age } })
    ⟨rfl, rfl⟩ (anchor_withAge law (by split <;> omega) fun un => ?_)
  obtain ⟨-, -, -, -, age⟩ := clear un
  simp [un, age]

/-- A cleared position unit meets the law with any profile (R26, R50). -/
theorem anchor_of_clear {preset : Option Count48} (h : l.pos = { PositionUnit.reset with preset := preset }) :
    l.AnchorLaw := by
  simp [Line.AnchorLaw, h, PositionUnit.reset]

/-- A profile word written to a line (R26). -/
theorem anchor_writeProfile (law : l.AnchorLaw) (k : Fin 5) (w : Word) : (l.writeProfile k w).AnchorLaw := by
  unfold Line.writeProfile
  split
  · exact anchor_of_clear (preset := l.pos.preset) rfl
  · exact law

/-- A line whose UNCERTAIN continuity is acknowledged (R61). -/
theorem anchor_acknowledged (law : l.AnchorLaw) (uncertain : l.pos.continuity = .uncertain) :
    Line.AnchorLaw { l with pos := { l.pos with continuity := .valid } } := by
  obtain ⟨clear, follows, le⟩ := law
  refine ⟨fun un => ?_, fun on => ⟨by simp, (follows on).2⟩, le⟩
  obtain ⟨-, none', -⟩ := clear un
  simp [uncertain] at none'

/-- A preset taken on an anchored line, or none (R63). -/
theorem anchor_settled (law : l.AnchorLaw) (on : l.pos.anchored = true) :
    Line.AnchorLaw { l with pos := l.pos.settled } := by
  cases armed : l.pos.preset with
  | none => rwa [settled_of_none armed]
  | some value =>
    obtain ⟨-, follows, le⟩ := law
    rw [settled_of_some armed]
    exact ⟨fun un => absurd (on.symm.trans un) (by decide),
      fun on => ⟨by simp [PositionUnit.takePreset], (follows on).2⟩, le⟩

/-- The widest raw value of a valid profile has 40 bits (R27). -/
theorem width_of_valid {p : Profile} (h : firstFailingCheck p = none) : p.width ≤ 40 := by
  have check : p.singleturn.toNat + p.multiturn.toNat ≤ 40 :=
    (firstFailingCheck_eq_none p).mp h 3 (by decide) (by decide)
  rw [Profile.width]
  omega

/-- A raw value of W bits is itself as a count and as `rPrev`. -/
theorem ofNat_of_fits {w r : Nat} (narrow : w ≤ 40) (fits : r < 2 ^ w) :
    (BitVec.ofNat 48 r).toNat = r ∧ (BitVec.ofNat 40 r).toNat = r := by
  have small : r < 2 ^ 40 := fits.trans_le (Nat.pow_le_pow_right (by decide) narrow)
  rw [BitVec.toNat_ofNat, BitVec.toNat_ofNat]
  omega

/-- An accepted sample is judged on an anchored line. -/
theorem anchored_of_accepted {p : Profile} {u : PositionUnit} {r : Nat} (h : judgeSample p u r = .accepted) :
    u.anchored = true := by
  cases on : u.anchored with
  | true => rfl
  | false => simp [judgeSample, on] at h

/-- A trusted sample of a raw value of W bits moves E to it modulo 2^W, and anchors its line (R54, R56, R58). -/
theorem anchor_trusted (law : l.AnchorLaw) (narrow : l.profile.width ≤ 40) {r : Nat} (fits : r < 2 ^ l.profile.width)
    (trusted : (judgeSample l.profile l.pos r).trusted = true) :
    let after := l.pos.trust l.profile (judgeSample l.profile l.pos r) r
    after.anchored = true ∧ Line.AnchorLaw { l with pos := after } := by
  intro after
  obtain ⟨-, follows, -⟩ := law
  obtain ⟨count, prev⟩ := ofNat_of_fits narrow fits
  have moved (on : l.pos.anchored = true) := moved_mod (n := 48) (by omega) (follows on).2 fits
  cases kind : judgeSample l.profile l.pos r with
  | jump => simp [kind, SampleCase.trusted] at trusted
  | firstAnchor =>
    simp only [after, kind, PositionUnit.trust]
    refine ⟨trivial, by simp, fun _ => ⟨by simp, ?_⟩, by simp⟩
    rw [count, prev, Nat.mod_eq_of_lt fits]
  | gapSample =>
    have on := ((judgeSample_eq_gap_iff _ _ _).mp kind).1
    simp only [after, kind, PositionUnit.trust]
    refine ⟨on, fun un => absurd (on.symm.trans un) (by decide), fun _ => ⟨?_, ?_⟩, by simp⟩
    · show (if l.pos.continuity = .valid then Continuity.uncertain else l.pos.continuity) ≠ .none
      split
      · decide
      · exact (follows on).1
    · rw [prev]; exact moved on
  | accepted =>
    have on := anchored_of_accepted kind
    simp only [after, kind, PositionUnit.trust]
    refine ⟨on, fun un => absurd (on.symm.trans un) (by decide), fun _ => ⟨(follows on).1, ?_⟩, by simp⟩
    rw [prev]; exact moved on

end AnchorLaw

/-! ## The work of a line keeps the law -/

section Work

variable {s : State} {n : LineNo}

/-- A departure leaves the anchor state (R32). -/
theorem departService_anchorLaw (law : AnchorLaw s) (d : Departure) (why : LineReason) :
    AnchorLaw (departService n d why s) := by
  refine anchorLaw_of_lineOnly (departService_lineOnly n d why s) law ?_
  rw [departService_line]
  exact AnchorSame.law ⟨rfl, rfl⟩ (law n)

/-- A deferred disable leaves a line's anchor state. -/
theorem deferred_anchorSame (l : Line) : AnchorSame l l.deferred :=
  ⟨deferred_profile l, by rw [deferred_pos]⟩

/-- A sample counted leaves a line's anchor state. -/
theorem counted_anchorSame (l : Line) (good : Bool) : AnchorSame l (l.counted good) := by
  refine ⟨?_, by rw [counted_pos]⟩
  simp only [Line.counted]
  split <;> rfl

/-- A frame end of a line, with its position unit's work on a raw value of W bits. -/
theorem posAfter_anchorLaw (law : (s.line n).AnchorLaw) (narrow : (s.line n).profile.width ≤ 40)
    {result : FrameResult} (fits : ∀ l raw ew reply, result = .checkOk l raw ew reply →
      raw < 2 ^ (s.line n).profile.width) :
    Line.AnchorLaw { s.line n with pos := posAfter s n result } := by
  cases result with
  | noAck => exact law
  | noStart => exact law
  | checkFail l => exact law
  | checkOk l raw ew reply =>
    have compared : Line.AnchorLaw { s.line n with pos := { (s.line n).pos with reference := ew } } :=
      AnchorSame.law ⟨rfl, rfl⟩ law
    simp only [posAfter]
    split
    · next good =>
      have noErr : ew.err = false := by
        cases err : ew.err with
        | false => rfl
        | true => simp [expectedStatus, err] at good
      have trusted : (caseOf s n raw).trusted = true := by
        by_contra jump
        rw [expectedStatus_of_sample s n l raw reply noErr, if_neg jump] at good
        cases good
      obtain ⟨on, after⟩ := anchor_trusted compared narrow (decodeRaw_lt (fits l raw ew reply rfl)) trusted
      exact anchor_settled after on
    · exact compared

/-- The end of a running frame. -/
theorem runningEnd_anchorLaw (law : AnchorLaw s) (running : (s.line n).running = true)
    (narrow : (s.line n).profile.width ≤ 40) {result : FrameResult}
    (fits : ∀ l raw ew reply, result = .checkOk l raw ew reply → raw < 2 ^ (s.line n).profile.width) :
    AnchorLaw (runningEnd n result s) := by
  have profile : ((runningEnd n result s).line n).profile = (s.line n).profile := by
    have ended : EndedAs _ _ _ := frameRecord_endedAs (result := result) running
    rw [runningEnd_line, deferred_profile, ended]
    rfl
  intro m
  by_cases here : m = n
  · rw [here]
    refine AnchorSame.law (l := { s.line n with pos := posAfter s n result }) ⟨profile, ?_⟩
      (posAfter_anchorLaw (law n) narrow fits)
    rw [runningEnd_pos running]
  · obtain ⟨others, -⟩ := (runningEnd_lineWork n result s).only
    rw [others m here]
    exact law m

/-- The end of a probe frame reports nothing to the position unit (R33). -/
theorem probeEnd_anchorLaw (law : AnchorLaw s) (probing : (s.line n).state = .probing) (result : FrameResult) :
    AnchorLaw (probeEnd n result s) := by
  refine anchorLaw_of_lineOnly (probeEnd_lineOnly n result s) law ?_
  have probed : ProbedAs _ _ _ := (probeJudged_probed (result := result) probing).1
  have judged : AnchorSame (s.line n) ((probeJudged n result s).line n) := by
    rw [probed]; exact ⟨rfl, rfl⟩
  rw [probeEnd_line]
  exact (judged.trans (deferred_anchorSame _)).law (law n)

/-- The timeout of probing is a departure at most (R35). -/
theorem probeTimeout_anchorLaw (law : AnchorLaw s) : AnchorLaw (probeTimeout n s) := by
  unfold probeTimeout
  split
  · exact departService_anchorLaw law _ _
  · exact law

/-- A recovery-limit expiry. -/
theorem recoveryExpiry_anchorLaw (law : AnchorLaw s) : AnchorLaw (recoveryExpiry n s) := by
  have again : Line.AnchorLaw (s.line n).newWait := AnchorSame.law ⟨rfl, rfl⟩ (law n)
  by_cases running : (s.line n).running = true
  · refine anchorLaw_of_lineOnly (recoveryExpiry_lineOnly n s) law ?_
    rw [recoveryExpiry_eq_countFailure running, countFailure_line (by rw [notReadyPosted_line]; exact running),
      notReadyPosted_line]
    exact (counted_anchorSame _ false).law again
  · by_cases probing : (s.line n).state = .probing
    · rw [recoveryExpiry_of_probing probing]
      exact probeTimeout_anchorLaw (setLine_anchorLaw law (AnchorSame.law ⟨rfl, rfl⟩ again))
    · rw [recoveryExpiry_of_other running probing]
      exact setLine_anchorLaw law again

/-- The end of recovery leaves a line's anchor state. -/
theorem becomeReady_anchorSame (l : Line) : AnchorSame l l.becomeReady := by
  simp only [Line.becomeReady]
  split <;> exact ⟨rfl, rfl⟩

/-- An entry to PROBING. -/
theorem enterProbing_anchorLaw (law : AnchorLaw s) (da : Bool) (why : LineReason) :
    AnchorLaw (enterProbing n da why s) := by
  rw [enterProbing_eq]
  exact setLine_anchorLaw law (anchor_enterProbing (law n) da)

/-- A cycle start advances every AGE (R52). -/
theorem startCycle_anchorLaw (law : AnchorLaw s) (source : TriggerSource) : AnchorLaw (startCycle source s) := by
  intro m
  obtain ⟨profile, pos⟩ := cycleActive_profile_pos source s m
  rw [(startCycle_closed source s).line]
  exact AnchorSame.law (l := advanceAge (s.line m)) ⟨profile, by rw [pos]⟩ (anchor_advanceAge (law m))

/-- A trigger taken. -/
theorem takeTrigger_anchorLaw (law : AnchorLaw s) (source : TriggerSource) : AnchorLaw (takeTrigger source s) := by
  unfold takeTrigger
  split
  · exact law
  · exact startCycle_anchorLaw law source
  · exact law

end Work

end Sys2Proof.Machine
end

section
/-! PROOFS. Every command keeps the law of the anchor state (R50). -/

namespace Sys2Proof.Machine

/-! ## The owners of the commands -/

/-- Whether the owner of a command leaves every line as it was. -/
def leavesLines : Instr → Bool
  | .cycleStart | .cycleStop | .bankHold | .bankRelease | .svcRelease | .eventPop | .eventFlush | .faultClear => true
  | _ => false

/-- The owners of the cycle unit but for TRIGGER, of the bank unit, of the event queue and of the fault unit, and
SVC_RELEASE, leave the lines. -/
theorem owner_line_of_leavesLines {c : Instr} {owner : State → Answer} (h : ownerOf c = some owner)
    (quiet : leavesLines c = true) (s : State) (m : LineNo) : (owner s).state.line m = s.line m := by
  cases c <;> simp only [leavesLines, Bool.false_eq_true] at quiet
  all_goals
    obtain rfl := Option.some.inj h
  case cycleStart =>
    unfold cycleStart
    repeat' split
    all_goals rfl
  case cycleStop => unfold cycleStop; split <;> rfl
  case bankHold => rfl
  case bankRelease => simp only [bankRelease]; split <;> rfl
  case svcRelease =>
    simp only [svcRelease]
    repeat' split
    all_goals rfl
  case eventPop => unfold eventPop; split <;> rfl
  case eventFlush => rfl
  case faultClear => rfl

/-- The owner of a command keeps the law, whatever it answers. -/
def KeepsAnchorLaw (owner : State → Answer) : Prop := ∀ s, AnchorLaw s → AnchorLaw (owner s).state

/-- A command that names a line keeps the law when its owner does for every line. -/
theorem withLine_keepsAnchor {owner : LineNo → State → Answer} (keeps : ∀ n, KeepsAnchorLaw (owner n)) :
    KeepsAnchorLaw (withLine owner) := by
  intro s law
  unfold withLine
  split
  · exact law
  · exact keeps _ s law

/-- An owner that leaves every line keeps the law. -/
theorem keepsAnchor_of_leavesLines {c : Instr} {owner : State → Answer} (h : ownerOf c = some owner)
    (quiet : leavesLines c = true) : KeepsAnchorLaw owner :=
  fun s law => anchorLaw_congr (owner_line_of_leavesLines h quiet s) law

theorem lineEnable_keepsAnchor (da : Bool) (n : LineNo) : KeepsAnchorLaw (lineEnable da n) := by
  intro s law
  unfold lineEnable
  split
  · exact law
  · split
    · exact law
    · exact enterProbing_anchorLaw law da .enabled

theorem lineRestart_keepsAnchor (da : Bool) (n : LineNo) : KeepsAnchorLaw (lineRestart da n) := by
  intro s law
  unfold lineRestart
  split
  · exact law
  · exact enterProbing_anchorLaw law da .restarted

theorem lineDisable_keepsAnchor (n : LineNo) : KeepsAnchorLaw (lineDisable n) := by
  intro s law
  unfold lineDisable
  split
  · exact law
  · split
    · exact setLine_anchorLaw law (law n)
    · exact departService_anchorLaw law .off .disabled

theorem triggerCommand_keepsAnchor : KeepsAnchorLaw triggerCommand := by
  intro s law
  unfold triggerCommand
  split
  · exact law
  · exact takeTrigger_anchorLaw law .host

theorem setPreset_keepsAnchor (n : LineNo) : KeepsAnchorLaw (setPreset n) := by
  intro s law
  unfold setPreset
  split
  · exact setLine_anchorLaw law (AnchorSame.law (l := s.line n) ⟨rfl, rfl⟩ (law n))
  · exact law

theorem cancelPreset_keepsAnchor (n : LineNo) : KeepsAnchorLaw (cancelPreset n) := by
  intro s law
  unfold cancelPreset
  split
  · exact setLine_anchorLaw law (AnchorSame.law (l := s.line n) ⟨rfl, rfl⟩ (law n))
  · exact law

theorem ackContinuity_keepsAnchor (n : LineNo) : KeepsAnchorLaw (ackContinuity n) := by
  intro s law
  unfold ackContinuity
  split
  · next uncertain => exact setLine_anchorLaw law (anchor_acknowledged (law n) uncertain)
  · exact law

theorem svcOpen_keepsAnchor (n : LineNo) : KeepsAnchorLaw (svcOpen n) := by
  intro s law
  unfold svcOpen openOn
  split
  · exact law
  · split
    · split
      · exact law
      · exact setLine_anchorLaw (s := s.setCtx _ _) law (AnchorSame.law (l := s.line n) ⟨rfl, rfl⟩ (law n))
    · exact law

theorem svcCancel_keepsAnchor : KeepsAnchorLaw svcCancel := by
  intro s law
  simp only [svcCancel]
  repeat' split
  · next r _ => exact setLine_anchorLaw law (AnchorSame.law (l := s.line r.line) ⟨rfl, rfl⟩ (law r.line))
  · next r p _ => exact setLine_anchorLaw law (AnchorSame.law (l := s.line r.line) ⟨rfl, rfl⟩ (law r.line))
  · exact law
  · exact law

/-- A reset clears every position unit (R69). -/
theorem resetBlocks_anchorLaw (s : State) : AnchorLaw (resetBlocks s) := fun n => by
  rw [resetBlocks_line]
  exact anchor_of_clear (preset := none) rfl

/-- Every owner of a command keeps the law. -/
theorem ownerOf_keepsAnchor {c : Instr} {owner : State → Answer} (h : ownerOf c = some owner) :
    KeepsAnchorLaw owner := by
  by_cases quiet : leavesLines c = true
  · exact keepsAnchor_of_leavesLines h quiet
  · cases c <;> simp only [ownerOf, leavesLines, not_true_eq_false, Option.some.injEq, reduceCtorEq] at h quiet
    all_goals subst h
    case lineEnable da => exact withLine_keepsAnchor (lineEnable_keepsAnchor da)
    case lineDisable => exact withLine_keepsAnchor lineDisable_keepsAnchor
    case lineRestart da => exact withLine_keepsAnchor (lineRestart_keepsAnchor da)
    case trigger => exact triggerCommand_keepsAnchor
    case setPreset => exact withLine_keepsAnchor setPreset_keepsAnchor
    case cancelPreset => exact withLine_keepsAnchor cancelPreset_keepsAnchor
    case ackContinuity => exact withLine_keepsAnchor ackContinuity_keepsAnchor
    case svcOpen => exact withLine_keepsAnchor svcOpen_keepsAnchor
    case svcCancel => exact svcCancel_keepsAnchor
    case softReset => exact fun s _ => resetBlocks_anchorLaw s

/-- A command taken keeps the law when its owner does. -/
theorem takeCommand_anchorLaw {owner : State → Answer} (keeps : KeepsAnchorLaw owner) (code : Word) (s : State)
    (law : AnchorLaw s) : AnchorLaw (takeCommand code owner s) :=
  keeps (s.taken code) law

/-- A write to CMD keeps the law, whatever its value. -/
theorem writeCmd_anchorLaw (value : Word) (s : State) (law : AnchorLaw s) : AnchorLaw (writeCmd value s) := by
  refine takeCommand_anchorLaw ?_ value s law
  unfold ownerOfValue
  split
  · next owner found =>
    obtain ⟨c, -, owned⟩ := Option.bind_eq_some_iff.mp found
    exact ownerOf_keepsAnchor owned
  · exact fun _ law => law

/-! ## The other host writes and the events -/

theorem writeProfile_anchorLaw (n : LineNo) (k : Fin 5) (value : Word) (s : State) (law : AnchorLaw s) :
    AnchorLaw (s.updLine n (·.writeProfile k value)) :=
  setLine_anchorLaw law (anchor_writeProfile (law n) k value)

theorem hostWrite_anchorLaw (address : Address) (value : Word) (s : State) (law : AnchorLaw s) :
    AnchorLaw (hostWrite address value s) := by
  unfold hostWrite
  split
  · exact writeCmd_anchorLaw value s law
  · exact law
  · exact law
  · exact law
  · exact law
  · exact writeProfile_anchorLaw _ _ value s law
  · exact law

/-- The law does not read the cycle unit. -/
theorem anchorLaw_of_cycle {s : State} (law : AnchorLaw s) (cycle : CycleUnit) :
    AnchorLaw { s with cycle := cycle } := law

theorem syncEdge_anchorLaw (s : State) (law : AnchorLaw s) : AnchorLaw (syncEdge s) := by
  unfold syncEdge
  split
  · exact takeTrigger_anchorLaw law .sync
  · exact law

theorem timerExpiry_anchorLaw (s : State) (law : AnchorLaw s) : AnchorLaw (timerExpiry s) := by
  unfold timerExpiry
  split
  · exact takeTrigger_anchorLaw (anchorLaw_of_cycle law _) .timer
  · exact law

theorem timestampTick_anchorLaw (s : State) (law : AnchorLaw s) : AnchorLaw (timestampTick s) := fun n => by
  rw [timestampTick_line]
  exact AnchorSame.law (l := s.line n) ⟨rfl, rfl⟩ (law n)

/-- The end of the running frame in flight, which was asked for with the profile that the line still has (R4). -/
theorem runningEnd_inFlight_anchorLaw {s : State} {n : LineNo} {f : Frame} (lines : LineLaw s) (law : AnchorLaw s)
    (running : (s.line n).running = true) (inFlight : (s.line n).frameInFlight = some f) (samples : List Bool) :
    AnchorLaw (runningEnd n (judgeFrame f samples) s) := by
  have latched : f.multiturn = (s.line n).profile.multiturn ∧ f.singleturn = (s.line n).profile.singleturn := by
    obtain ⟨-, -, -, -, -, -, -, -, -, latched⟩ := lines n
    refine latched f ?_
    unfold Line.frameInFlight at inFlight
    split at inFlight
    · exact inFlight
    · cases inFlight
  refine runningEnd_anchorLaw law running (width_of_valid (valid_of_running (lines n) running)) ?_
  intro l raw ew reply ok
  rw [Profile.width, ← latched.1, ← latched.2]
  exact raw_lt_of_checkOk ok

/-- A step that keeps the law while RESET is high keeps it. -/
theorem anchorLaw_of_whileRunning {f : State → State} {s t : State} (law : AnchorLaw s)
    (keeps : AnchorLaw s → AnchorLaw (f s)) (run : whileRunning f s = .next t) : AnchorLaw t := by
  rw [whileRunning_next] at run
  rw [← next_inj run]
  split
  · exact law
  · exact keeps law

/-- Every command keeps the law of the anchor state, given the law of the line controllers. -/
theorem exec_anchorLaw {c : Instr} {s t : State} (lines : LineLaw s) (law : AnchorLaw s)
    (run : exec c s = .next t) : AnchorLaw t := by
  have command {owner : State → Answer} {code : Word} (owned : ownerOf c = some owner)
      (run : whileRunning (takeCommand code owner) s = .next t) : AnchorLaw t :=
    anchorLaw_of_whileRunning law (takeCommand_anchorLaw (ownerOf_keepsAnchor owned) code s) run
  cases c with
  | lineEnable da => exact command rfl run
  | lineDisable => exact command rfl run
  | lineRestart da => exact command rfl run
  | cycleStart => exact command rfl run
  | cycleStop => exact command rfl run
  | trigger => exact command rfl run
  | bankHold => exact command rfl run
  | bankRelease => exact command rfl run
  | setPreset => exact command rfl run
  | cancelPreset => exact command rfl run
  | ackContinuity => exact command rfl run
  | svcOpen => exact command rfl run
  | svcCancel => exact command rfl run
  | svcRelease => exact command rfl run
  | eventPop => exact command rfl run
  | eventFlush => exact command rfl run
  | faultClear => exact command rfl run
  | softReset => exact command rfl run
  | badCommand value => exact anchorLaw_of_whileRunning law (writeCmd_anchorLaw value s) run
  | profileWrite n k value =>
    exact anchorLaw_of_whileRunning (f := fun s => s.updLine n (·.writeProfile k value)) law
      (writeProfile_anchorLaw n k value s) run
  | cycleConfigurationWrite value =>
    exact anchorLaw_of_whileRunning (f := fun s => { s with cycle := s.cycle.writeConfig value }) law id run
  | serviceConfigurationWrite value =>
    exact anchorLaw_of_whileRunning (f := fun s => { s with service := s.service.writeConfig value }) law id run
  | classMaskWrite value =>
    exact anchorLaw_of_whileRunning (f := fun s => { s with events := { s.events with mask := maskOf value } }) law
      id run
  | registerWrite address value => exact anchorLaw_of_whileRunning law (hostWrite_anchorLaw address value s) run
  | syncEdge => exact anchorLaw_of_whileRunning law (syncEdge_anchorLaw s) run
  | timerExpiry => exact anchorLaw_of_whileRunning law (timerExpiry_anchorLaw s) run
  | hardwareReset => exact next_inj run ▸ resetBlocks_anchorLaw s
  | resetRelease =>
    rw [← next_inj run]
    split
    · exact resetBlocks_anchorLaw s
    · exact law
  | probeFrameEnd n samples =>
    simp only [exec, execProbeFrameEnd] at run
    refine anchorLaw_of_whileRunning law (fun law => ?_) run
    split
    · next f probing _ => exact probeEnd_anchorLaw law probing _
    · exact law
  | runningFrameEnd n samples =>
    simp only [exec, execRunningFrameEnd] at run
    refine anchorLaw_of_whileRunning law (fun law => ?_) run
    split
    · next f state inFlight =>
      exact runningEnd_inFlight_anchorLaw lines law ((running_iff _).mpr (.inl state)) inFlight samples
    · next f state inFlight =>
      exact runningEnd_inFlight_anchorLaw lines law ((running_iff _).mpr (.inr state)) inFlight samples
    · exact law
  | endOfRecovery n =>
    refine anchorLaw_of_whileRunning law (fun law => ?_) run
    split
    · exact setLine_anchorLaw law ((becomeReady_anchorSame (s.line n)).law (law n))
    · exact law
  | recoveryLimitExpiry n =>
    refine anchorLaw_of_whileRunning law (fun law => ?_) run
    split
    · exact recoveryExpiry_anchorLaw law
    · exact law
  | timestampCounterTick => exact anchorLaw_of_whileRunning law (timestampTick_anchorLaw s) run

/-- Settles O57: the front command keeps the law, and an idle step changes nothing. -/
theorem stepKeepsTheAnchorLaw : Obligations.StepKeepsTheAnchorLaw := by
  intro s t lines law run
  unfold step at run
  split at run
  · rwa [← next_inj run]
  · next c rest _ => exact exec_anchorLaw (s := { s with pending := rest }) lines law run

end Sys2Proof.Machine
end

section
/-! PROOFS. What a step can do: the effects of the commands on a running part, each once, so that a claim about every
step is a claim about each effect. -/

namespace Sys2Proof.Machine

/-- The effects that a command can have on a state: those of the commands of the port, of the other host writes, of the
triggers, of the events of a line, of the tick, and of the RESET input. -/
inductive StepEffect (s : State) : State → Prop where
  | none : StepEffect s s
  | command {c : Instr} {owner : State → Answer} (owned : ownerOf c = some owner) (code : Word) :
      StepEffect s (takeCommand code owner s)
  | badCommand (value : Word) : StepEffect s (takeCommand value (refuse .badCommand) s)
  | argument (i : Fin 6) (value : Word) : StepEffect s (s.setArg i value)
  | cycleConfiguration (value : Word) : StepEffect s { s with cycle := s.cycle.writeConfig value }
  | serviceConfiguration (value : Word) : StepEffect s { s with service := s.service.writeConfig value }
  | classMask (value : Word) : StepEffect s { s with events := { s.events with mask := maskOf value } }
  | profile (n : LineNo) (k : Fin 5) (value : Word) : StepEffect s (s.updLine n (·.writeProfile k value))
  | syncEdge : StepEffect s (Machine.syncEdge s)
  | timerExpiry : StepEffect s (Machine.timerExpiry s)
  | tick : StepEffect s (timestampTick s)
  | probeEnd {n : LineNo} {f : Frame} (samples : List Bool) (probing : (s.line n).state = .probing)
      (inFlight : (s.line n).frameInFlight = some f) : StepEffect s (Machine.probeEnd n (judgeFrame f samples) s)
  | runningEnd {n : LineNo} {f : Frame} (samples : List Bool) (running : (s.line n).running = true)
      (inFlight : (s.line n).frameInFlight = some f) : StepEffect s (Machine.runningEnd n (judgeFrame f samples) s)
  | becomeReady {n : LineNo} (observes : (s.line n).observesDa = true) : StepEffect s (s.updLine n (·.becomeReady))
  | recoveryExpiry {n : LineNo} (reached : (s.line n).limitReached = true) :
      StepEffect s (Machine.recoveryExpiry n s)
  | resetLow : StepEffect s { resetBlocks s with resetLow := true }
  | resetHigh : StepEffect s (resetBlocks s)

/-- A write to CMD is the command that its value holds, or is refused. -/
theorem writeCmd_effect (value : Word) (s : State) : StepEffect s (writeCmd value s) := by
  unfold writeCmd ownerOfValue
  split
  · next owner found =>
    obtain ⟨c, -, owned⟩ := Option.bind_eq_some_iff.mp found
    exact .command owned value
  · exact .badCommand value

theorem hostWrite_effect (address : Address) (value : Word) (s : State) :
    StepEffect s (hostWrite address value s) := by
  unfold hostWrite
  split
  · exact writeCmd_effect value s
  · exact .argument _ value
  · exact .cycleConfiguration value
  · exact .serviceConfiguration value
  · exact .classMask value
  · exact .profile _ _ value
  · exact .none

/-- The command port runs every command that has an owner. -/
theorem exec_of_owner {c : Instr} {owner : State → Answer} (owned : ownerOf c = some owner) :
    ∃ code, ∀ s, exec c s = whileRunning (takeCommand code owner) s := by
  cases c <;> cases owned <;> exact ⟨_, fun _ => rfl⟩

/-- A step while RESET is low has no effect. -/
theorem whileRunning_effect {f : State → State} {s t : State} (effect : StepEffect s (f s))
    (run : whileRunning f s = .next t) : StepEffect s t := by
  rw [whileRunning_next] at run
  rw [← next_inj run]
  split
  · exact .none
  · exact effect

/-- Every command has one of the effects. -/
theorem exec_effect {c : Instr} {s t : State} (run : exec c s = .next t) : StepEffect s t := by
  cases owned : ownerOf c with
  | some owner =>
    obtain ⟨code, isCommand⟩ := exec_of_owner owned
    exact whileRunning_effect (.command owned code) ((isCommand s).symm.trans run)
  | none =>
    cases c <;> simp only [ownerOf, reduceCtorEq] at owned
    case badCommand value => exact whileRunning_effect (writeCmd_effect value s) run
    case profileWrite n k value =>
      simp only [exec, execProfileWrite] at run
      exact whileRunning_effect (.profile n k value) run
    case cycleConfigurationWrite value =>
      simp only [exec, execCycleConfigurationWrite] at run
      exact whileRunning_effect (.cycleConfiguration value) run
    case serviceConfigurationWrite value =>
      simp only [exec, execServiceConfigurationWrite] at run
      exact whileRunning_effect (.serviceConfiguration value) run
    case classMaskWrite value =>
      simp only [exec, execClassMaskWrite] at run
      exact whileRunning_effect (.classMask value) run
    case registerWrite address value => exact whileRunning_effect (hostWrite_effect address value s) run
    case syncEdge => exact whileRunning_effect .syncEdge run
    case timerExpiry => exact whileRunning_effect .timerExpiry run
    case timestampCounterTick => exact whileRunning_effect .tick run
    case hardwareReset => exact next_inj run ▸ .resetLow
    case resetRelease =>
      rw [← next_inj run]
      split
      · exact .resetHigh
      · exact .none
    case probeFrameEnd n samples =>
      simp only [exec, execProbeFrameEnd] at run
      refine whileRunning_effect ?_ run
      split
      · next f probing inFlight => exact .probeEnd samples probing inFlight
      · exact .none
    case runningFrameEnd n samples =>
      simp only [exec, execRunningFrameEnd] at run
      refine whileRunning_effect ?_ run
      split
      · next f state inFlight => exact .runningEnd samples ((running_iff _).mpr (.inl state)) inFlight
      · next f state inFlight => exact .runningEnd samples ((running_iff _).mpr (.inr state)) inFlight
      · exact .none
    case endOfRecovery n =>
      refine whileRunning_effect ?_ run
      split
      · next observes => exact .becomeReady observes
      · exact .none
    case recoveryLimitExpiry n =>
      refine whileRunning_effect ?_ run
      split
      · next reached => exact .recoveryExpiry reached
      · exact .none

/-- A step has one of the effects, on the state with its front command taken from the queue; an idle step has none. -/
theorem step_effect {s t : State} (run : step s = .next t) : ∃ pending, StepEffect { s with pending := pending } t := by
  unfold step at run
  split at run
  · exact ⟨s.pending, next_inj run ▸ .none⟩
  · next c rest _ => exact ⟨rest, exec_effect run⟩

end Sys2Proof.Machine
end

section
/-! PROOFS. The law of the cycle (R79, R82, R91): what it reads of the part, and that the work of a line, a cycle start
and a completion keep it. -/

namespace Sys2Proof.Machine

/-! ## What the law reads -/

/-- Whether a running frame of a line is in flight: what the law of the cycle reads of a line. -/
def Line.runsFrame (l : Line) : Prop := l.running = true ∧ l.sub = .frame

theorem not_runsFrame_of_not_running {l : Line} (away : l.running = false) : ¬l.runsFrame := fun ⟨running, _⟩ => by
  simp [away] at running

theorem not_runsFrame_of_sub {l : Line} (closed : l.sub ≠ .frame) : ¬l.runsFrame := fun ⟨_, sub⟩ => closed sub

/-- State `t` agrees with state `s` in all that the law of the cycle reads. -/
structure CycleSame (s t : State) : Prop where
  state : t.cycle.state = s.cycle.state
  participating : t.cycle.participating = s.cycle.participating
  outstanding : t.cycle.outstanding = s.cycle.outstanding
  backStatus : t.banks.backStatus = s.banks.backStatus
  hold : t.banks.hold = s.banks.hold
  frames : ∀ m, (t.line m).runsFrame ↔ (s.line m).runsFrame

theorem CycleSame.law {s t : State} (h : CycleSame s t) (law : CycleLaw s) : CycleLaw t := by
  obtain ⟨filling, held, active, frames, participates, ordered⟩ := law
  unfold CycleLaw
  rw [h.state, h.participating, h.outstanding, h.backStatus, h.hold]
  exact ⟨filling, held, active, fun m => (frames m).trans (h.frames m).symm, participates, ordered⟩

/-- Work of one line keeps the law when it neither begins nor ends a running frame of the line. -/
theorem cycleLaw_of_lineOnly {n : LineNo} {s t : State} (only : LineOnly n s t) (law : CycleLaw s)
    (line : (t.line n).runsFrame ↔ (s.line n).runsFrame) : CycleLaw t := by
  refine CycleSame.law ⟨by rw [only.cycle], by rw [only.cycle], by rw [only.cycle], by rw [only.banks],
    by rw [only.banks], fun m => ?_⟩ law
  by_cases here : m = n
  · rwa [here]
  · rw [only.others m here]

/-- Work of one line that has no running frame in flight, neither before nor after. -/
theorem cycleLaw_of_idle {n : LineNo} {s t : State} (only : LineOnly n s t) (law : CycleLaw s)
    (before : ¬(s.line n).runsFrame) (after : ¬(t.line n).runsFrame) : CycleLaw t :=
  cycleLaw_of_lineOnly only law (iff_of_false after before)

/-- The work of the service engine neither begins nor ends a frame. -/
theorem ServiceOnly.cycleLaw {n : LineNo} {s t : State} (h : ServiceOnly n s t) (law : CycleLaw s) : CycleLaw t :=
  cycleLaw_of_lineOnly h.lineOnly law (by rw [h.same]; rfl)

/-- An update of a line that leaves its state and its sub-state. -/
theorem updLine_cycleLaw {s : State} (law : CycleLaw s) (n : LineNo) (f : Line → Line)
    (state : (f (s.line n)).state = (s.line n).state) (sub : (f (s.line n)).sub = (s.line n).sub) :
    CycleLaw (s.updLine n f) := by
  refine cycleLaw_of_lineOnly (updLine_lineOnly n s f) law ?_
  rw [updLine_line_same]
  simp only [Line.runsFrame, Line.running, state, sub]

/-- While the cycle unit is IDLE no running frame is in flight. -/
theorem not_runsFrame_of_idle {s : State} (law : CycleLaw s) (idle : s.cycle.state = .idle) (n : LineNo) :
    ¬(s.line n).runsFrame := by
  obtain ⟨-, -, active, frames, -⟩ := law
  intro inFlight
  have some' := active.mpr (List.ne_nil_of_mem ((frames n).mpr inFlight))
  simp [idle] at some'

/-! ## A cycle that is about to be looked at for its completion (R82, R84) -/

/-- The law of the cycle with the cycle ACTIVE, whether or not a line is outstanding: what holds when the cycle unit
looks whether the cycle is complete. -/
structure OpenCycle (s : State) : Prop where
  active : s.cycle.state = .active
  filling : s.banks.backStatus = .filling
  frames : ∀ n, n ∈ s.cycle.outstanding ↔ (s.line n).runsFrame
  participates : ∀ n ∈ s.cycle.outstanding, n ∈ s.cycle.participating
  ordered : s.cycle.participating.Pairwise (· < ·)

/-- The cycle of an open one goes on while a line is outstanding, and the law holds. -/
theorem OpenCycle.law {s : State} (h : OpenCycle s) (some' : s.cycle.outstanding ≠ []) : CycleLaw s :=
  ⟨by simp [h.active, h.filling], by simp [h.filling], by simp [h.active, some'], h.frames, h.participates, h.ordered⟩

/-- A completion leaves the back bank HELD with HOLD set, and STALE with HOLD clear (R96, R97). -/
theorem completeCycle_backStatus (s : State) :
    (completeCycle s).banks.backStatus = if s.banks.hold then .held else .stale := by
  rw [completeCycle_banks]
  split <;> rfl

/-- The completion of an open cycle with no line outstanding makes the law hold. -/
theorem OpenCycle.completed {s : State} (h : OpenCycle s) (empty : s.cycle.outstanding = []) :
    CycleLaw (completeCycle s) := by
  have line (n : LineNo) : (completeCycle s).line n = s.line n := (completeCycle_told s).line n
  have cycle : (completeCycle s).cycle = { s.cycle with state := .idle } := by rw [completeCycle_frame]
  have hold : (completeCycle s).banks.hold = s.banks.hold := (completeCycle_told s).hold
  unfold CycleLaw
  rw [completeCycle_backStatus, hold, cycle]
  refine ⟨?_, ?_, by simp [empty], fun n => ?_, h.participates, h.ordered⟩
  · cases s.banks.hold <;> simp
  · cases s.banks.hold <;> simp
  · rw [line]; exact h.frames n

/-- The cycle unit looks whether a cycle is complete: the law holds behind it. -/
theorem OpenCycle.looked {s : State} (h : OpenCycle s) :
    CycleLaw (if s.cycle.outstanding = [] then completeCycle s else s) := by
  split
  · next empty => exact h.completed empty
  · next some' => exact h.law some'

/-! ## The record of an outstanding line (R82, R83) -/

/-- The part with a line taken from the outstanding set (R82). -/
def State.recorded (s : State) (n : LineNo) : State :=
  { s with cycle := { s.cycle with outstanding := s.cycle.outstanding.filter (· ≠ n) } }

/-- The record of an outstanding line takes it from the set, and the cycle completes when none is left (R82, R83). -/
theorem recordWritten_of_mem {n : LineNo} {s : State} (active : s.cycle.state = .active)
    (mem : n ∈ s.cycle.outstanding) :
    recordWritten n s =
      if (s.recorded n).cycle.outstanding = [] then completeCycle (s.recorded n) else s.recorded n := by
  have leaves : (decide (s.cycle.state = .active) && s.cycle.outstanding.contains n) = true := by simp [active, mem]
  simp only [recordWritten, if_pos leaves, List.isEmpty_iff]
  rfl

/-! ## The work of a line keeps the law -/

section Work

variable {s : State} {n : LineNo}

/-- A departure of a line that runs no frame. -/
theorem departService_cycleLaw (law : CycleLaw s) (idle : ¬(s.line n).runsFrame) (d : Departure) (why : LineReason) :
    CycleLaw (departService n d why s) := by
  refine cycleLaw_of_idle (departService_lineOnly n d why s) law idle (not_runsFrame_of_sub ?_)
  rw [departService_line]
  simp

/-- A deferred disable of a line that runs no frame. -/
theorem deferredDisable_cycleLaw (law : CycleLaw s) (idle : ¬(s.line n).runsFrame) :
    CycleLaw (deferredDisable n s) := by
  refine cycleLaw_of_idle (deferredDisable_lineOnly n s) law idle ?_
  rw [deferredDisable_line, Line.deferred]
  split
  · exact not_runsFrame_of_sub (by simp [Line.left])
  · exact idle

/-- An entry to PROBING of a line that does not run: a probe frame is no running frame. -/
theorem enterProbing_cycleLaw (law : CycleLaw s) (away : (s.line n).running = false) (da : Bool) (why : LineReason) :
    CycleLaw (enterProbing n da why s) := by
  refine cycleLaw_of_idle (enterProbing_lineOnly n da why s) law (not_runsFrame_of_not_running away)
    (not_runsFrame_of_not_running ?_)
  rw [enterProbing_eq]
  show ((s.setLine n _).line n).running = false
  rw [setLine_line_same]
  rfl

/-- A line that has ended its running frame has none in flight. -/
theorem EndedAs.not_runsFrame {l k : Line} {result : FrameResult} (h : EndedAs l result k) : ¬k.runsFrame := by
  refine not_runsFrame_of_sub ?_
  rw [EndedAs] at h
  rw [h]
  dsimp only
  split <;> simp

/-- A line that has ended its probe frame has no frame in flight. -/
theorem ProbedAs.not_runsFrame {l k : Line} {result : FrameResult} (h : ProbedAs l result k) : ¬k.runsFrame := by
  refine not_runsFrame_of_sub ?_
  rw [ProbedAs] at h
  rw [h]
  dsimp only
  split <;> simp

/-- The end of a probe frame. -/
theorem probeEnd_cycleLaw (law : CycleLaw s) (probing : (s.line n).state = .probing) (result : FrameResult) :
    CycleLaw (probeEnd n result s) := by
  refine cycleLaw_of_idle (probeEnd_lineOnly n result s) law
    (not_runsFrame_of_not_running (by simp [Line.running, probing])) ?_
  rw [probeEnd_line]
  exact (probeJudged_probed probing).1.deferred.not_runsFrame

/-- The back status while the record is written. -/
theorem frameRecord_backStatus (n : LineNo) (result : FrameResult) (s : State) :
    (frameRecord n result s).banks.backStatus = s.banks.backStatus :=
  (updBack_backStatus _ _).trans (congrArg BankUnit.backStatus (countSample_frameWork_banks n _ result s))

/-- The record of a running frame leaves an open cycle when its line is taken from the outstanding set. -/
theorem frameRecord_openCycle (law : CycleLaw s) (running : (s.line n).running = true) (sub : (s.line n).sub = .frame)
    (result : FrameResult) : OpenCycle ((frameRecord n result s).recorded n) := by
  obtain ⟨filling, -, active, frames, participates, ordered⟩ := law
  have active := active.mpr (List.ne_nil_of_mem ((frames n).mpr ⟨running, sub⟩))
  have cycle := frameRecord_cycle n result s
  constructor
  · simp only [State.recorded, cycle, active]
  · exact (frameRecord_backStatus n result s).trans (filling.mpr active)
  · intro m
    show m ∈ (frameRecord n result s).cycle.outstanding.filter (· ≠ n) ↔ ((frameRecord n result s).line m).runsFrame
    rw [cycle]
    by_cases here : m = n
    · subst here
      simp [(frameRecord_endedAs (result := result) running).not_runsFrame]
    · obtain ⟨others, -⟩ := (frameRecord_lineWork n result s).only
      rw [others m here]
      simpa [here, Line.runsFrame] using frames m
  · simp only [State.recorded, cycle]
    exact fun m mem => participates m (List.mem_of_mem_filter mem)
  · simp only [State.recorded, cycle, ordered]

/-- The end of a running frame: its line leaves the outstanding set, and its last line completes the cycle. -/
theorem runningEnd_cycleLaw (law : CycleLaw s) (running : (s.line n).running = true) (sub : (s.line n).sub = .frame)
    (result : FrameResult) : CycleLaw (runningEnd n result s) := by
  have ⟨_, _, active, frames, _⟩ := law
  have mem : n ∈ s.cycle.outstanding := (frames n).mpr ⟨running, sub⟩
  have told : CycleLaw (frameTold n result s) := by
    rw [frameTold, recordWritten_of_mem]
    · exact (frameRecord_openCycle law running sub result).looked
    · rw [frameRecord_cycle]; exact active.mpr (List.ne_nil_of_mem mem)
    · rwa [frameRecord_cycle]
  rw [runningEnd_eq_deferred]
  refine deferredDisable_cycleLaw told ?_
  rw [frameTold_line]
  exact (frameRecord_endedAs running).not_runsFrame

/-- The end of recovery: a line that runs waits for a cycle, and a line in PROBING asks for a probe frame. -/
theorem becomeReady_cycleLaw (law : CycleLaw s) (recovers : (s.line n).sub = .recovery) :
    CycleLaw (s.updLine n (·.becomeReady)) := by
  refine cycleLaw_of_idle (updLine_lineOnly n s _) law (not_runsFrame_of_sub (by simp [recovers])) ?_
  rw [updLine_line_same]
  by_cases probing : (s.line n).state = .probing
  · rw [becomeReady_of_probing probing]
    exact not_runsFrame_of_not_running (by simp [Line.running, probing])
  · rw [becomeReady_of_not_probing probing]
    exact not_runsFrame_of_sub (by simp)

/-- A health counting begins no frame. -/
theorem counted_not_runsFrame {l : Line} (closed : l.sub ≠ .frame) (good : Bool) : ¬(l.counted good).runsFrame := by
  refine not_runsFrame_of_sub ?_
  simp only [Line.counted]
  split
  · simp [Line.left]
  · exact closed

/-- A recovery-limit expiry begins no frame. -/
theorem recoveryExpiry_cycleLaw (law : CycleLaw s) (recovers : (s.line n).sub = .recovery) :
    CycleLaw (recoveryExpiry n s) := by
  have closed : (s.line n).newWait.sub ≠ .frame := by simp [Line.newWait, recovers]
  refine cycleLaw_of_idle (recoveryExpiry_lineOnly n s) law (not_runsFrame_of_sub (by simp [recovers])) ?_
  by_cases running : (s.line n).running = true
  · rw [recoveryExpiry_eq_countFailure running, countFailure_line (by rw [notReadyPosted_line]; exact running),
      notReadyPosted_line]
    exact counted_not_runsFrame closed false
  · refine not_runsFrame_of_sub ?_
    by_cases probing : (s.line n).state = .probing
    · rw [recoveryExpiry_of_probing probing, probeTimeout]
      split
      · rw [departService_line]; simp
      · rw [setLine_line_same]; exact closed
    · rw [recoveryExpiry_of_other running probing, updLine_line_same]
      exact closed

end Work

/-! ## The cycle start keeps the law (R79, R84, R91) -/

/-- A cycle start up to its completion leaves an open cycle: its frames are those of the participating lines. -/
theorem cycleActive_openCycle {s : State} (law : CycleLaw s) (idle : s.cycle.state = .idle) (source : TriggerSource) :
    OpenCycle (cycleActive source s) := by
  have cycle := cycleActive_cycle source s
  constructor
  · rw [cycle]
  · exact cycleActive_backStatus source s
  · intro n
    rw [cycle]
    show n ∈ participants s ↔ _
    rw [mem_participants]
    have closed := not_runsFrame_of_idle law idle n
    cases mem : (s.line n).participates with
    | true =>
      obtain ⟨slot, queue, inFlight, line, -⟩ := cycleActive_line_of_participates (source := source) mem
      simp only [Line.participates, Bool.and_eq_true] at mem
      obtain ⟨⟨running, -⟩, -⟩ := mem
      rw [line]
      exact iff_of_true rfl ⟨running, rfl⟩
    | false =>
      refine iff_of_false (by simp) ?_
      cases running : (s.line n).running with
      | true => rw [cycleActive_line_of_missed running mem]; exact closed
      | false => rw [cycleActive_line_of_away running]; exact closed
  · simp only [cycle]; exact fun _ => id
  · rw [cycle]
    exact List.Pairwise.filter _ (by decide)

/-- A cycle start. -/
theorem startCycle_cycleLaw {s : State} (law : CycleLaw s) (idle : s.cycle.state = .idle) (source : TriggerSource) :
    CycleLaw (startCycle source s) := by
  have looked := (cycleActive_openCycle law idle source).looked
  rw [cycleActive_cycle] at looked
  rwa [startCycle_eq]

/-- An overrun is counted in the back header only. -/
theorem overrun_cycleSame (source : TriggerSource) (s : State) : CycleSame s (overrun source s) :=
  ⟨rfl, rfl, rfl, updBack_backStatus _ _, updBack_hold _ _, fun _ => .rfl⟩

/-- A trigger taken. -/
theorem takeTrigger_cycleLaw {s : State} (law : CycleLaw s) (source : TriggerSource) :
    CycleLaw (takeTrigger source s) := by
  unfold takeTrigger
  split
  · exact law
  · next idle => exact startCycle_cycleLaw law idle source
  · exact (overrun_cycleSame source s).law law

end Sys2Proof.Machine
end

section
/-! PROOFS. Every step keeps the law of the cycle (R79, R82, R91). -/

namespace Sys2Proof.Machine

/-! ## The owners of the commands -/

/-- The owner of a command keeps the law, whatever it answers. -/
def KeepsCycleLaw (owner : State → Answer) : Prop := ∀ s, CycleLaw s → CycleLaw (owner s).state

/-- A command that names a line keeps the law when its owner does for every line. -/
theorem withLine_keepsCycle {owner : LineNo → State → Answer} (keeps : ∀ n, KeepsCycleLaw (owner n)) :
    KeepsCycleLaw (withLine owner) := by
  intro s law
  unfold withLine
  split
  · exact law
  · exact keeps _ s law

theorem lineEnable_keepsCycle (da : Bool) (n : LineNo) : KeepsCycleLaw (lineEnable da n) := by
  intro s law
  unfold lineEnable
  split
  · exact law
  · next off =>
    split
    · exact law
    · exact enterProbing_cycleLaw law (by simp [Line.running, not_not.mp off]) da .enabled

theorem lineRestart_keepsCycle (da : Bool) (n : LineNo) : KeepsCycleLaw (lineRestart da n) := by
  intro s law
  unfold lineRestart
  split
  · exact law
  · next lost => exact enterProbing_cycleLaw law (by simp [Line.running, not_not.mp lost]) da .restarted

/-- A disable during a frame waits for the frame's end, so that no running frame is lost (R30). -/
theorem lineDisable_keepsCycle (n : LineNo) : KeepsCycleLaw (lineDisable n) := by
  intro s law
  unfold lineDisable
  split
  · exact law
  · split
    · exact updLine_cycleLaw law n (fun l => { l with disablePending := true }) rfl rfl
    · next closed => exact departService_cycleLaw law (not_runsFrame_of_sub closed) .off .disabled

theorem cycleStart_keepsCycle : KeepsCycleLaw cycleStart := by
  intro s law
  unfold cycleStart
  repeat' split
  all_goals exact law

theorem cycleStop_keepsCycle : KeepsCycleLaw cycleStop := by
  intro s law
  unfold cycleStop
  split <;> exact law

theorem triggerCommand_keepsCycle : KeepsCycleLaw triggerCommand := by
  intro s law
  unfold triggerCommand
  split
  · exact law
  · exact takeTrigger_cycleLaw law .host

theorem bankHold_keepsCycle : KeepsCycleLaw bankHold := by
  rintro s ⟨filling, -, rest⟩
  exact ⟨filling, fun _ => rfl, rest⟩

/-- A release leaves no bank HELD, and publishes none while a cycle is ACTIVE (R100). -/
theorem bankRelease_keepsCycle : KeepsCycleLaw bankRelease := by
  rintro s ⟨filling, -, rest⟩
  simp only [bankRelease]
  split
  · next held =>
    have idle : s.cycle.state ≠ .active := fun active => by simp [filling.mpr active] at held
    refine ⟨iff_of_false ?_ idle, fun later => ?_, rest⟩
    · exact BackStatus.noConfusion
    · exact BackStatus.noConfusion later
  · next other => exact ⟨filling, fun held => absurd held other, rest⟩

theorem setPreset_keepsCycle (n : LineNo) : KeepsCycleLaw (setPreset n) := by
  intro s law
  unfold setPreset
  split
  · exact updLine_cycleLaw law n _ rfl rfl
  · exact law

theorem cancelPreset_keepsCycle (n : LineNo) : KeepsCycleLaw (cancelPreset n) := by
  intro s law
  unfold cancelPreset
  split
  · exact updLine_cycleLaw law n _ rfl rfl
  · exact law

theorem ackContinuity_keepsCycle (n : LineNo) : KeepsCycleLaw (ackContinuity n) := by
  intro s law
  unfold ackContinuity
  split
  · exact updLine_cycleLaw law n _ rfl rfl
  · exact law

theorem svcOpen_keepsCycle (n : LineNo) : KeepsCycleLaw (svcOpen n) := by
  intro s law
  unfold svcOpen openOn
  split
  · exact law
  · split
    · split
      · exact law
      · exact updLine_cycleLaw (s := s.setCtx _ _) law n _ rfl rfl
    · exact law

theorem svcCancel_keepsCycle : KeepsCycleLaw svcCancel := by
  intro s law
  simp only [svcCancel]
  repeat' split
  · next r _ =>
    exact ((updLine_serviceOnly r.line s _ fun _ => rfl).trans (finishCtx_serviceOnly _ _ _ _ _ _)).cycleLaw law
  · next r p _ => exact ((setAbort_serviceOnly r.line s true).trans (finishCtx_serviceOnly _ _ _ _ _ _)).cycleLaw law
  · exact law
  · exact law

/-- A release frees its context and touches nothing else. -/
theorem svcRelease_keepsCycle : KeepsCycleLaw svcRelease := by
  intro s law
  simp only [svcRelease]
  repeat' split
  all_goals exact law

theorem eventPop_keepsCycle : KeepsCycleLaw eventPop := by
  intro s law
  unfold eventPop
  split <;> exact law

/-- After a reset the cycle unit is IDLE, the back bank STALE, and every line OFF. -/
theorem resetBlocks_cycleLaw (s : State) : CycleLaw (resetBlocks s) := by
  refine ⟨by simp [resetBlocks, State.reset, BankUnit.reset, CycleUnit.reset],
    by simp [resetBlocks, State.reset, BankUnit.reset], by simp [resetBlocks, State.reset, CycleUnit.reset],
    fun n => ?_, by simp [resetBlocks, State.reset, CycleUnit.reset],
    by simp [resetBlocks, State.reset, CycleUnit.reset]⟩
  rw [resetBlocks_line]
  simp [resetBlocks, State.reset, CycleUnit.reset, Line.reset]

/-- Every owner of a command keeps the law. -/
theorem ownerOf_keepsCycle {c : Instr} {owner : State → Answer} (h : ownerOf c = some owner) :
    KeepsCycleLaw owner := by
  cases c <;> simp only [ownerOf, Option.some.injEq, reduceCtorEq] at h
  all_goals subst h
  case lineEnable da => exact withLine_keepsCycle (lineEnable_keepsCycle da)
  case lineDisable => exact withLine_keepsCycle lineDisable_keepsCycle
  case lineRestart da => exact withLine_keepsCycle (lineRestart_keepsCycle da)
  case cycleStart => exact cycleStart_keepsCycle
  case cycleStop => exact cycleStop_keepsCycle
  case trigger => exact triggerCommand_keepsCycle
  case bankHold => exact bankHold_keepsCycle
  case bankRelease => exact bankRelease_keepsCycle
  case setPreset => exact withLine_keepsCycle setPreset_keepsCycle
  case cancelPreset => exact withLine_keepsCycle cancelPreset_keepsCycle
  case ackContinuity => exact withLine_keepsCycle ackContinuity_keepsCycle
  case svcOpen => exact withLine_keepsCycle svcOpen_keepsCycle
  case svcCancel => exact svcCancel_keepsCycle
  case svcRelease => exact svcRelease_keepsCycle
  case eventPop => exact eventPop_keepsCycle
  case eventFlush => exact fun _ law => law
  case faultClear => exact fun _ law => law
  case softReset => exact fun s _ => resetBlocks_cycleLaw s

/-! ## The other host writes and the events -/

/-- A profile write leaves the state and the sub-state of its line. -/
theorem writeProfile_cycleLaw {s : State} (law : CycleLaw s) (n : LineNo) (k : Fin 5) (value : Word) :
    CycleLaw (s.updLine n (·.writeProfile k value)) := by
  refine updLine_cycleLaw law n _ ?_ ?_
  · unfold Line.writeProfile; split <;> rfl
  · unfold Line.writeProfile; split <;> rfl

/-- A cycle configuration write leaves the cycle state and the sets. -/
theorem writeConfig_cycleSame (s : State) (value : Word) :
    CycleSame s { s with cycle := s.cycle.writeConfig value } := by
  constructor
  case frames => exact fun _ => .rfl
  all_goals
    unfold CycleUnit.writeConfig
    split <;> rfl

theorem timestampTick_cycleSame (s : State) : CycleSame s (timestampTick s) :=
  ⟨rfl, rfl, rfl, rfl, rfl, fun m => by rw [timestampTick_line]; rfl⟩

/-- A line whose frame ends is in sub-state FRAME. -/
theorem sub_of_frameInFlight {l : Line} {f : Frame} (h : l.frameInFlight = some f) : l.sub = .frame := by
  by_contra closed
  simp [Line.frameInFlight, closed] at h

/-- A line whose recovery ends or reaches its limit is in RECOVERY. -/
theorem recovery_of_observesDa {l : Line} (h : l.observesDa = true) : l.sub = .recovery := by
  simp only [Line.observesDa, Bool.and_eq_true, decide_eq_true_eq] at h
  exact h.1

theorem recovery_of_limitReached {l : Line} (h : l.limitReached = true) : l.sub = .recovery := by
  cases waited : l.waited <;> simp [Line.limitReached, waited] at h
  exact h.1

/-- Every effect of a step keeps the law of the cycle. -/
theorem stepEffect_cycleLaw {s t : State} (law : CycleLaw s) (effect : StepEffect s t) : CycleLaw t := by
  cases effect with
  | none => exact law
  | command owned code => exact ownerOf_keepsCycle owned (s.taken code) law
  | badCommand value => exact law
  | argument i value => exact law
  | cycleConfiguration value => exact (writeConfig_cycleSame s value).law law
  | serviceConfiguration value => exact law
  | classMask value => exact law
  | profile n k value => exact writeProfile_cycleLaw law n k value
  | syncEdge =>
    unfold syncEdge
    split
    · exact takeTrigger_cycleLaw law .sync
    · exact law
  | timerExpiry =>
    unfold timerExpiry
    split
    · have restarted : CycleLaw { s with
          cycle := { s.cycle with timer := s.cycle.timer.restart s.cycle.period.toNat } } := law
      exact takeTrigger_cycleLaw restarted .timer
    · exact law
  | tick => exact (timestampTick_cycleSame s).law law
  | probeEnd samples probing inFlight => exact probeEnd_cycleLaw law probing _
  | runningEnd samples running inFlight => exact runningEnd_cycleLaw law running (sub_of_frameInFlight inFlight) _
  | becomeReady observes => exact becomeReady_cycleLaw law (recovery_of_observesDa observes)
  | recoveryExpiry reached => exact recoveryExpiry_cycleLaw law (recovery_of_limitReached reached)
  | resetLow => exact resetBlocks_cycleLaw s
  | resetHigh => exact resetBlocks_cycleLaw s

/-- Settles O59: a step is one of the effects on the state with its front command taken, and each keeps the law. -/
theorem stepKeepsTheCycleLaw : Obligations.StepKeepsTheCycleLaw := by
  intro s t law run
  obtain ⟨pending, effect⟩ := step_effect run
  exact stepEffect_cycleLaw (s := { s with pending := pending }) law effect

end Sys2Proof.Machine
end

section
/-! PROOFS. The cycle unit's own commands and configuration (R70 to R77, R81, R121, R165): the configuration words,
CYCLE_START and CYCLE_STOP, and the triggers that start no cycle. -/

namespace Sys2Proof.Machine

/-! ## The configuration words (R70, R121, R165) -/

/-- A service configuration write is taken by the lower bounds of its fields; their widths give the upper ones
(R121). -/
theorem serviceEngine_writeConfig (u : ServiceEngine) (w : Word) :
    u.writeConfig w =
      if 1 ≤ (w.extractLsb' 0 3).toNat ∧ 4 ≤ (w.extractLsb' 8 8).toNat then
        { u with attemptLimit := w.extractLsb' 0 3, replyWindow := w.extractLsb' 8 8, configIgnored := false }
      else { u with configIgnored := true } := by
  have limit := (w.extractLsb' 0 3).isLt
  have window := (w.extractLsb' 8 8).isLt
  have bounds : (1 ≤ (w.extractLsb' 0 3).toNat ∧ (w.extractLsb' 0 3).toNat ≤ 7 ∧ 4 ≤ (w.extractLsb' 8 8).toNat ∧
      (w.extractLsb' 8 8).toNat ≤ 255) ↔ 1 ≤ (w.extractLsb' 0 3).toNat ∧ 4 ≤ (w.extractLsb' 8 8).toNat := by omega
  simp only [ServiceEngine.writeConfig, serviceFields, bounds]

/-- Settles O8: each write is the owner's own on the word's fields. -/
theorem configurationWrites : Obligations.ConfigurationWrites := by
  intro s v high
  have cycle : exec (.cycleConfigurationWrite v) s = .next { s with cycle := s.cycle.writeConfig v } :=
    whileRunning_of_high high fun s => { s with cycle := s.cycle.writeConfig v }
  have service : exec (.serviceConfigurationWrite v) s = .next { s with service := s.service.writeConfig v } :=
    whileRunning_of_high high fun s => { s with service := s.service.writeConfig v }
  rw [cycle, service]
  refine ⟨fun stopped => ?_, fun started => ?_, fun fits => ?_, fun out => ?_, ?_⟩
  · simp only [CycleUnit.writeConfig, stopped, cycleFields]
  · simp only [CycleUnit.writeConfig, started]
  · rw [serviceEngine_writeConfig, if_pos fits]
  · rw [serviceEngine_writeConfig, if_neg out]
  · exact whileRunning_of_high high fun s => { s with events := { s.events with mask := maskOf v } }

/-! ## CYCLE_START and CYCLE_STOP (R72, R73) -/

/-- The commands of the cycle unit are handed to their owners. -/
theorem exec_cycleStart_of_high {s : State} (high : s.resetLow = false) :
    exec .cycleStart s = .next (takeCommand 0x08 cycleStart s) :=
  whileRunning_of_high high _

theorem exec_cycleStop_of_high {s : State} (high : s.resetLow = false) :
    exec .cycleStop s = .next (takeCommand 0x09 cycleStop s) :=
  whileRunning_of_high high _

theorem exec_trigger_of_high {s : State} (high : s.resetLow = false) :
    exec .trigger s = .next (takeCommand 0x0A triggerCommand s) :=
  whileRunning_of_high high _

/-- The source codes: 0, 1 and 2 name a source, 3 names none (R178). -/
theorem sourceOf_eq_none (code : BitVec 2) : sourceOf code = none ↔ code = 3 := by
  revert code; decide

theorem sourceOf_eq_timer (code : BitVec 2) : sourceOf code = some .timer ↔ code = 2 := by
  revert code; decide

theorem sourceOf_eq_sync (code : BitVec 2) : sourceOf code = some .sync ↔ code = 1 := by
  revert code; decide

/-- Settles O31: the owner's answer at each check of CYCLE_START, and in each state of CYCLE_STOP. -/
theorem cycleStartAndStop : Obligations.CycleStartAndStop := by
  intro s high
  rw [exec_cycleStart_of_high high, exec_cycleStop_of_high high]
  refine ⟨fun started => ?_, fun stopped unnamed => ?_, fun stopped named short => ?_, fun stopped named long => ?_,
    fun stopped => ?_, fun started => ?_⟩
  · rw [takeCommand_refuse (r := .wrongState) (v := 0) (by simp [cycleStart, started])]; rfl
  · rw [takeCommand_refuse (r := .badArgument) (v := 1)
      (by simp [cycleStart, stopped, (sourceOf_eq_none _).mpr unnamed])]; rfl
  · obtain ⟨source, found⟩ := Option.ne_none_iff_exists'.mp (mt (sourceOf_eq_none _).mp named)
    rw [takeCommand_refuse (r := .badArgument) (v := 2) (by simp [cycleStart, stopped, found, short])]; rfl
  · obtain ⟨source, found⟩ := Option.ne_none_iff_exists'.mp (mt (sourceOf_eq_none _).mp named)
    have isTimer : s.cycle.sourceCode = 2 ↔ source = .timer := by
      rw [← sourceOf_eq_timer, found, Option.some.injEq]
    simp only [isTimer]
    rw [takeCommand_accept (v := 0) (t := { s.taken 0x08 with cycle := { s.cycle with
      run := .started, timer := if source = .timer then .running 0 else .stopped } })
      (by simp [cycleStart, stopped, found, Nat.not_lt.mpr long])]
    rfl
  · rw [takeCommand_refuse (r := .wrongState) (v := 0) (by simp [cycleStop, stopped])]; rfl
  · rw [takeCommand_accept (v := if s.cycle.state = .active then 1 else 0)
      (t := { s.taken 0x09 with cycle := { s.cycle with run := .stopped, timer := .stopped } })
      (by simp [cycleStop, started])]
    split <;> rfl

/-! ## The triggers that start no cycle (R74 to R77, R81) -/

/-- The overrun count of the back header after one more overrun (R81). -/
def State.overrunCount (s : State) : Nat :=
  if s.banks.backBank.header.overruns < 255 then s.banks.backBank.header.overruns + 1 else 255

/-- The part with an overrun counted in the back header. -/
def State.overrunCounted (s : State) : State :=
  { s with banks := s.banks.updBack fun b => { b with header := { b.header with overruns := s.overrunCount } } }

/-- A trigger of an ACTIVE cycle is counted and reported. -/
theorem takeTrigger_of_active {s : State} (source : TriggerSource) (started : s.cycle.run = .started)
    (active : s.cycle.state = .active) :
    takeTrigger source s = s.overrunCounted.posted [.cycleOverrun source s.overrunCount] := by
  simp only [takeTrigger, started, active]
  rfl

/-- A SYNC edge with source SYNC is a trigger while STARTED (R75). -/
theorem exec_syncEdge_of_source {s : State} (high : s.resetLow = false) (started : s.cycle.run = .started)
    (sync : s.cycle.sourceCode = 1) : exec .syncEdge s = .next (takeTrigger .sync s) := by
  have taken : syncEdge s = takeTrigger .sync s := if_pos ⟨started, (sourceOf_eq_sync _).mpr sync⟩
  rw [← taken]
  exact whileRunning_of_high high syncEdge

/-- TRIGGER is a trigger while STARTED, and answers whether it was an overrun (R76). -/
theorem exec_trigger_of_started {s : State} (high : s.resetLow = false) (started : s.cycle.run = .started) :
    exec .trigger s = .next ((takeTrigger .host (s.taken 0x0A)).answer 0x0A .accepted
      (BitVec.ofNat 32 (if s.cycle.state = .active then 1 else 0))) := by
  rw [exec_trigger_of_high high, takeCommand_accept (v := if s.cycle.state = .active then 1 else 0)
    (t := takeTrigger .host (s.taken 0x0A)) (by simp [triggerCommand, started])]

/-- Settles O33: each trigger is taken by the cycle unit as an overrun, or is none. -/
theorem overrunsAreCounted : Obligations.OverrunsAreCounted := by
  intro s high count counted
  refine ⟨fun started active => ⟨fun sync => ?_, fun e timer due => ?_, ?_⟩, fun none' => ?_, fun stopped => ?_,
    fun e timer early => ?_, fun stopped => ?_⟩
  · rw [exec_syncEdge_of_source high started sync, takeTrigger_of_active .sync started active]
    rfl
  · have overran := takeTrigger_of_active .timer (s := s.triggered (.running (e - s.cycle.period.toNat)) s.port)
      started active
    exact (exec_timerExpiry_of_counted high timer due).trans (congrArg _ overran)
  · rw [exec_trigger_of_started high started, if_pos active,
      takeTrigger_of_active .host (s := s.taken 0x0A) started active]
    rfl
  · have quiet : syncEdge s = s := by
      refine if_neg fun ⟨started, sync⟩ => ?_
      obtain stopped | other := none'
      · simp [stopped] at started
      · exact other ((sourceOf_eq_sync _).mp sync)
    exact (whileRunning_of_high high syncEdge).trans (congrArg _ quiet)
  · exact exec_of_untimely (by simp [timely, CycleUnit.expires, stopped])
  · exact exec_of_untimely (by simp [timely, CycleUnit.expires, timer, early])
  · rw [exec_trigger_of_high high,
      takeCommand_refuse (r := .wrongState) (v := 0) (by simp [triggerCommand, stopped])]
    rfl

end Sys2Proof.Machine
end

section
/-! PROOFS. The completion of a cycle (R82 to R84, R96, R97): at its start when no line participates, and at the running
frame end of its last outstanding line. -/

namespace Sys2Proof.Machine

/-! ## What a completion leaves (R83, R96, R97) -/

theorem completeCycle_cycle (s : State) : (completeCycle s).cycle = { s.cycle with state := .idle } := by
  rw [completeCycle_frame]

/-- A completion with HOLD clear makes the bank that was back the front one; HOLD keeps the front. -/
theorem completeCycle_front (s : State) :
    (completeCycle s).banks.front = if s.banks.hold then s.banks.front else s.banks.backId := by
  rw [completeCycle_banks]
  split
  · exact updBack_front _ _
  · exact updBack_backId _ _

/-- A completion stamps the header of the bank that was back. -/
theorem completeCycle_backHeader (s : State) :
    ((completeCycle s).banks.bank s.banks.backId).header =
      { (s.banks.bank s.banks.backId).header with completed := s.cycle.timestamp } := by
  rw [completeCycle_bank, if_pos rfl]

/-! ## A cycle in which no line participates (R84) -/

/-- The start of an empty cycle leaves the cycle unit IDLE and the bank stamped, published or held. -/
theorem startCycle_emptyCycleCompleted {s : State} (source : TriggerSource)
    (empty : ∀ n, (s.line n).participates = false) : EmptyCycleCompleted s (startCycle source s) := by
  have none' : participants s = [] :=
    List.eq_nil_iff_forall_not_mem.mpr fun n => by simp [mem_participants, empty n]
  have cycle := cycleActive_cycle source s
  have hold := cycleActive_hold source s
  have front := cycleActive_front source s
  have backId : (cycleActive source s).banks.backId = s.banks.backId := by simp only [BankUnit.backId, front]
  have events : (cycleActive source s).events = s.events := by rw [cycleActive_frame]
  obtain ⟨started, -⟩ := cycleActive_backBank source s
  have header := completeCycle_backHeader (cycleActive source s)
  have frontAfter := completeCycle_front (cycleActive source s)
  have status := completeCycle_backStatus (cycleActive source s)
  obtain ⟨-, posts⟩ := completeCycle_posts (cycleActive source s)
  rw [backId, started, cycle] at header
  rw [hold, front, backId] at frontAfter
  rw [hold] at status
  rw [hold, backId, cycle, events] at posts
  rw [startCycle_eq, if_pos none']
  refine ⟨by rw [completeCycle_cycle], by rw [completeCycle_cycle, cycle]; exact none', by rw [header], ?_,
    fun clear => ?_, fun set => ?_⟩
  · rw [header]
    simp only [initialHeader, cycleFormed_cycle]
  · rw [frontAfter, status, posts, clear]; exact ⟨rfl, rfl, rfl⟩
  · rw [frontAfter, status, posts, set]; exact ⟨rfl, rfl, rfl⟩

/-- A trigger while STARTED and IDLE completes an empty cycle at once, whatever timer and port it finds. -/
theorem takeTrigger_emptyCycleCompleted {s : State} (source : TriggerSource) (timer : PeriodTimer) (port : CommandPort)
    (started : s.cycle.run = .started) (idle : s.cycle.state = .idle)
    (empty : ∀ n, (s.line n).participates = false) :
    EmptyCycleCompleted s (takeTrigger source (s.triggered timer port)) := by
  have starts : takeTrigger source (s.triggered timer port) = startCycle source (s.triggered timer port) := by
    simp only [takeTrigger, State.triggered, started, idle]
  rw [starts]
  exact startCycle_emptyCycleCompleted (s := s.triggered timer port) source empty

/-- Settles O34: each of the three triggers starts the empty cycle. -/
theorem emptyCycleCompletesAtOnce : Obligations.EmptyCycleCompletesAtOnce := by
  intro s high started idle empty
  exact ⟨fun sync => ⟨_, exec_syncEdge_of_source high started sync,
      takeTrigger_emptyCycleCompleted .sync s.cycle.timer s.port started idle empty⟩,
    fun e timer due => ⟨_, exec_timerExpiry_of_counted high timer due,
      takeTrigger_emptyCycleCompleted .timer (.running (e - s.cycle.period.toNat)) s.port started idle empty⟩,
    ⟨_, exec_trigger_of_started high started,
      takeTrigger_emptyCycleCompleted .host s.cycle.timer { s.port with cmd := 0x0A } started idle empty⟩⟩

/-! ## The frame end of an outstanding line (R82, R83) -/

section LastRecord

variable {s : State} {n : LineNo} {result : FrameResult}

/-- The cycle unit and the banks at the end of a running frame are those that the record leaves: a deferred disable
touches neither. -/
theorem runningEnd_cycle_banks (n : LineNo) (result : FrameResult) (s : State) :
    (runningEnd n result s).cycle = (frameTold n result s).cycle ∧
      (runningEnd n result s).banks = (frameTold n result s).banks := by
  have only := deferredDisable_lineOnly n (frameTold n result s)
  rw [runningEnd_eq_deferred]
  exact ⟨only.cycle, only.banks⟩

/-- The record of an outstanding line, and the completion when it is the last one. -/
theorem frameTold_of_mem (active : s.cycle.state = .active) (mem : n ∈ s.cycle.outstanding) :
    frameTold n result s =
      if s.cycle.outstanding.filter (· ≠ n) = [] then completeCycle ((frameRecord n result s).recorded n)
      else (frameRecord n result s).recorded n := by
  have cycle := frameRecord_cycle n result s
  rw [frameTold, recordWritten_of_mem (by rwa [cycle]) (by rwa [cycle])]
  simp only [State.recorded, cycle]

theorem frameRecord_backId (n : LineNo) (result : FrameResult) (s : State) :
    (frameRecord n result s).banks.backId = s.banks.backId := by
  simp only [BankUnit.backId, frameRecord_front]

/-- The record leaves the header of the back bank. -/
theorem frameRecord_backHeader (n : LineNo) (result : FrameResult) (s : State) :
    ((frameRecord n result s).banks.bank s.banks.backId).header = s.banks.backBank.header := by
  rw [frameRecord_bank, if_pos rfl]
  rfl

/-- The line of a running frame end leaves the outstanding set. -/
theorem runningEnd_outstanding (active : s.cycle.state = .active) (mem : n ∈ s.cycle.outstanding) :
    (runningEnd n result s).cycle.outstanding = s.cycle.outstanding.filter (· ≠ n) := by
  have cycle := frameRecord_cycle n result s
  rw [(runningEnd_cycle_banks n result s).1, frameTold_of_mem active mem]
  split
  · rw [completeCycle_cycle]; simp only [State.recorded, cycle]
  · simp only [State.recorded, cycle]

/-- The last outstanding line's frame end completes the cycle. -/
theorem runningEnd_completes (active : s.cycle.state = .active) (mem : n ∈ s.cycle.outstanding)
    (last : s.cycle.outstanding.filter (· ≠ n) = []) :
    let t := runningEnd n result s
    t.cycle.state = .idle ∧
      (t.banks.bank s.banks.backId).header = { s.banks.backBank.header with completed := s.cycle.timestamp } ∧
      t.banks.front = (if s.banks.hold then s.banks.front else s.banks.backId) ∧
      t.banks.backStatus = if s.banks.hold then .held else .stale := by
  intro t
  obtain ⟨cycle, banks⟩ := runningEnd_cycle_banks n result s
  obtain ⟨-, -, -, -, hold, -⟩ := (frameRecord_lineWork n result s).only
  have stamped := completeCycle_backHeader ((frameRecord n result s).recorded n)
  have frontAfter := completeCycle_front ((frameRecord n result s).recorded n)
  have status := completeCycle_backStatus ((frameRecord n result s).recorded n)
  simp only [State.recorded, frameRecord_cycle, frameRecord_backId, frameRecord_backHeader, frameRecord_front, hold]
    at stamped frontAfter status
  rw [frameTold_of_mem active mem, if_pos last] at cycle banks
  simp only [t, cycle, banks, completeCycle_cycle, true_and]
  simp only [State.recorded, frameRecord_cycle]
  exact ⟨stamped, frontAfter, status⟩

/-- With another line outstanding the cycle goes on. -/
theorem runningEnd_goesOn (active : s.cycle.state = .active) (mem : n ∈ s.cycle.outstanding)
    (more : s.cycle.outstanding.filter (· ≠ n) ≠ []) :
    let t := runningEnd n result s
    t.cycle.state = .active ∧ t.banks.front = s.banks.front ∧ t.banks.backStatus = s.banks.backStatus ∧
      (t.banks.bank s.banks.backId).header = s.banks.backBank.header := by
  intro t
  obtain ⟨cycle, banks⟩ := runningEnd_cycle_banks n result s
  rw [frameTold_of_mem active mem, if_neg more] at cycle banks
  simp only [t, cycle, banks, State.recorded, frameRecord_cycle]
  exact ⟨active, frameRecord_front n result s, frameRecord_backStatus n result s, frameRecord_backHeader n result s⟩

/-- The event of the completion stands behind those of the frame and before those of a deferred disable. -/
theorem runningEnd_entries_of_last (queue : QueueLaw s) (contexts : ActiveLaw s) (running : (s.line n).running = true)
    (active : s.cycle.state = .active) (mem : n ∈ s.cycle.outstanding)
    (last : s.cycle.outstanding.filter (· ≠ n) = []) :
    (runningEnd n result s).events.entries =
      postAll (positionEvents s n result ++ serviceEvents s n result ++ healthEvents s n result ++
          [if s.banks.hold then .cycleUnpublished s.banks.backId else .cycleDone s.banks.backId] ++
          deferredEvents s n result)
        s.cycle.number s.events.entries := by
  obtain ⟨-, entries⟩ := runningEnd_posts (result := result) (queueFits_of_laws queue contexts n) running
  rwa [completionEvents, if_pos ⟨active, mem, last⟩] at entries

end LastRecord

/-- Settles O36: the running frame end of an outstanding line, by whether it is the last one and by HOLD. -/
theorem lastRecordCompletesTheCycle : Obligations.LastRecordCompletesTheCycle := by
  intro s n f samples frame active mem result ofFrame
  have ⟨_, running, _, _⟩ := frame
  have outstanding := runningEnd_outstanding (result := result) active mem
  refine ⟨runningEnd n result s, exec_runningFrameEnd samples frame, outstanding, fun last => ?_, fun more => ?_⟩
  · rw [outstanding] at last
    obtain ⟨idle, header, front, status⟩ := runningEnd_completes (result := result) active mem last
    have entries := fun queue contexts =>
      runningEnd_entries_of_last (result := result) queue contexts running active mem last
    refine ⟨idle, header, fun clear => ?_, fun set => ?_⟩
    · simp only [clear] at front status entries
      exact ⟨front, status, entries⟩
    · simp only [set] at front status entries
      exact ⟨front, status, entries⟩
  · rw [outstanding] at more
    exact runningEnd_goesOn active mem more

end Sys2Proof.Machine
end

section
/-! PROOFS. The front bank (R88): the work that can touch the banks at all, which is that of the triggers, of the
record of a running frame, and of the two bank commands, and that none of it touches the bank that is front. -/

namespace Sys2Proof.Machine

/-! ## The front bank is kept (R88) -/

/-- The bank that is front in `s` has the same contents in `t`, whichever bank is front there. -/
def FrontKept (s t : State) : Prop := t.banks.bank s.banks.front = s.banks.frontBank

/-- Work that leaves the bank unit. -/
theorem frontKept_of_banks {s t : State} (h : t.banks = s.banks) : FrontKept s t := by
  rw [FrontKept, h, BankUnit.frontBank]

/-- What a step does to a running part, while a step of a part in reset does nothing. -/
theorem frontKept_of_whileRunning {f : State → State} {s t : State} (kept : FrontKept s (f s))
    (run : whileRunning f s = .next t) : FrontKept s t := by
  rw [whileRunning_next] at run
  rw [← next_inj run]
  split
  · exact frontKept_of_banks rfl
  · exact kept

/-- A cycle start fills the back bank; a cycle that completes at once swaps the banks (R80, R84, R96). -/
theorem startCycle_frontKept (source : TriggerSource) (s : State) : FrontKept s (startCycle source s) := by
  have closed := (startCycle_closed source s).front
  rwa [BankUnit.frontBank, cycleActive_front, cycleActive_frontBank] at closed

/-- An overrun is counted in the back header (R81). -/
theorem overrun_frontKept (source : TriggerSource) (s : State) : FrontKept s (overrun source s) :=
  updBack_frontBank s.banks _

theorem takeTrigger_frontKept (source : TriggerSource) (s : State) : FrontKept s (takeTrigger source s) := by
  unfold takeTrigger
  split
  · exact frontKept_of_banks rfl
  · exact startCycle_frontKept source s
  · exact overrun_frontKept source s

theorem syncEdge_frontKept (s : State) : FrontKept s (syncEdge s) := by
  unfold syncEdge
  split
  · exact takeTrigger_frontKept .sync s
  · exact frontKept_of_banks rfl

theorem timerExpiry_frontKept (s : State) : FrontKept s (timerExpiry s) := by
  unfold timerExpiry
  split
  · exact takeTrigger_frontKept .timer
      { s with cycle := { s.cycle with timer := s.cycle.timer.restart s.cycle.period.toNat } }
  · exact frontKept_of_banks rfl

/-- A late publication marks the HELD bank while it is back, and swaps the banks (R98). -/
theorem publishLate_frontKept (s : State) : FrontKept s (publishLate s) :=
  (swap_bank _ _).trans (updBack_frontBank s.banks _)

/-! ## The owners of the commands -/

/-- The owner of a command leaves the bank unit, whatever it answers. -/
def LeavesBanks (owner : State → Answer) : Prop := ∀ s, (owner s).state.banks = s.banks

/-- The owner of a command keeps the front bank, whatever it answers. -/
def KeepsFront (owner : State → Answer) : Prop := ∀ s, FrontKept s (owner s).state

theorem LeavesBanks.keepsFront {owner : State → Answer} (h : LeavesBanks owner) : KeepsFront owner :=
  fun s => frontKept_of_banks (h s)

theorem withLine_leavesBanks {owner : LineNo → State → Answer} (leaves : ∀ n, LeavesBanks (owner n)) :
    LeavesBanks (withLine owner) := by
  intro s
  unfold withLine
  split
  · rfl
  · exact leaves _ s

theorem lineEnable_leavesBanks (da : Bool) (n : LineNo) : LeavesBanks (lineEnable da n) := by
  intro s
  unfold lineEnable
  repeat' split
  · rfl
  · rfl
  · exact (enterProbing_lineOnly n da _ s).banks

theorem lineRestart_leavesBanks (da : Bool) (n : LineNo) : LeavesBanks (lineRestart da n) := by
  intro s
  unfold lineRestart
  split
  · rfl
  · exact (enterProbing_lineOnly n da _ s).banks

theorem lineDisable_leavesBanks (n : LineNo) : LeavesBanks (lineDisable n) := by
  intro s
  unfold lineDisable
  repeat' split
  · rfl
  · rfl
  · exact (departService_lineOnly n _ _ s).banks

theorem cycleStart_leavesBanks : LeavesBanks cycleStart := by
  intro s
  unfold cycleStart
  repeat' split
  all_goals rfl

theorem cycleStop_leavesBanks : LeavesBanks cycleStop := by
  intro s
  unfold cycleStop
  split <;> rfl

theorem setPreset_leavesBanks (n : LineNo) : LeavesBanks (setPreset n) := by
  intro s
  unfold setPreset
  split <;> rfl

theorem cancelPreset_leavesBanks (n : LineNo) : LeavesBanks (cancelPreset n) := by
  intro s
  unfold cancelPreset
  split <;> rfl

theorem ackContinuity_leavesBanks (n : LineNo) : LeavesBanks (ackContinuity n) := by
  intro s
  unfold ackContinuity
  split <;> rfl

theorem svcOpen_leavesBanks (n : LineNo) : LeavesBanks (svcOpen n) := by
  intro s
  unfold svcOpen openOn
  repeat' split
  all_goals rfl

theorem svcCancel_leavesBanks : LeavesBanks svcCancel := by
  intro s
  simp only [svcCancel]
  repeat' split
  all_goals rfl

theorem svcRelease_leavesBanks : LeavesBanks svcRelease := by
  intro s
  simp only [svcRelease]
  repeat' split
  all_goals rfl

theorem eventPop_leavesBanks : LeavesBanks eventPop := by
  intro s
  unfold eventPop
  split <;> rfl

theorem triggerCommand_keepsFront : KeepsFront triggerCommand := by
  intro s
  unfold triggerCommand
  split
  · exact frontKept_of_banks rfl
  · exact takeTrigger_frontKept .host s

theorem bankHold_keepsFront : KeepsFront bankHold := fun _ => rfl

theorem bankRelease_keepsFront : KeepsFront bankRelease := by
  intro s
  simp only [bankRelease]
  split
  · exact publishLate_frontKept { s with banks := { s.banks with hold := false } }
  · rfl

/-- Every owner but that of SOFT_RESET keeps the front bank. -/
theorem ownerOf_keepsFront {c : Instr} {owner : State → Answer} (between : isReset c = false)
    (owned : ownerOf c = some owner) : KeepsFront owner := by
  cases c <;> simp only [ownerOf, Option.some.injEq, reduceCtorEq] at owned
  all_goals subst owned
  case lineEnable da => exact (withLine_leavesBanks (lineEnable_leavesBanks da)).keepsFront
  case lineDisable => exact (withLine_leavesBanks lineDisable_leavesBanks).keepsFront
  case lineRestart da => exact (withLine_leavesBanks (lineRestart_leavesBanks da)).keepsFront
  case cycleStart => exact cycleStart_leavesBanks.keepsFront
  case cycleStop => exact cycleStop_leavesBanks.keepsFront
  case trigger => exact triggerCommand_keepsFront
  case bankHold => exact bankHold_keepsFront
  case bankRelease => exact bankRelease_keepsFront
  case setPreset => exact (withLine_leavesBanks setPreset_leavesBanks).keepsFront
  case cancelPreset => exact (withLine_leavesBanks cancelPreset_leavesBanks).keepsFront
  case ackContinuity => exact (withLine_leavesBanks ackContinuity_leavesBanks).keepsFront
  case svcOpen => exact (withLine_leavesBanks svcOpen_leavesBanks).keepsFront
  case svcCancel => exact svcCancel_leavesBanks.keepsFront
  case svcRelease => exact svcRelease_leavesBanks.keepsFront
  case eventPop => exact eventPop_leavesBanks.keepsFront
  case eventFlush => exact fun _ => frontKept_of_banks rfl
  case faultClear => exact fun _ => frontKept_of_banks rfl
  case softReset => cases between

/-! ## The host writes that no command is, and the events -/

/-- Whether a value holds an assigned code does not depend on the level of DA (R180). -/
theorem commandOf_isSome (da : Bool) (value : Word) : (commandOf da value).isSome = assignedCommand value := by
  unfold assignedCommand commandOf
  split <;> rfl

/-- A write to CMD of a value that holds no assigned code is refused with BAD_COMMAND (R180). -/
theorem writeCmd_of_not_assigned {value : Word} (unassigned : assignedCommand value = false) (s : State) :
    writeCmd value s = takeCommand value (refuse .badCommand) s := by
  have none' : commandOf s.argDa value = none := by
    rw [← Option.not_isSome_iff_eq_none, commandOf_isSome, unassigned, Bool.not_eq_true]
  rw [writeCmd, ownerOfValue, none']
  rfl

/-- A write to a word with no behaviour of its own writes an argument word or nothing (R174, R182). -/
theorem hostWrite_of_not_own {address : Address} (plain : hasOwnWrite address = false) (value : Word) (s : State) :
    (∃ i, hostWrite address value s = s.setArg i value) ∨ hostWrite address value s = s := by
  unfold hostWrite
  split
  case h_2 i _ => exact .inl ⟨i, rfl⟩
  case h_7 => exact .inr rfl
  all_goals
    next found => simp [hasOwnWrite, found] at plain

/-- A command of the port keeps the front bank by its owner. -/
theorem exec_frontKept_of_owner {c : Instr} {owner : State → Answer} {s t : State} (between : isReset c = false)
    (owned : ownerOf c = some owner) (run : exec c s = .next t) : FrontKept s t := by
  obtain ⟨code, isCommand⟩ := exec_of_owner owned
  rw [isCommand] at run
  exact frontKept_of_whileRunning (f := takeCommand code owner) (ownerOf_keepsFront between owned (s.taken code)) run

/-- The other host writes and the events: the triggers and the end of a running frame keep the front bank, and the
rest leave the bank unit. -/
theorem exec_frontKept_of_no_owner {c : Instr} {s t : State} (formed : wellFormed c = true)
    (between : isReset c = false) (unowned : ownerOf c = none) (run : exec c s = .next t) : FrontKept s t := by
  cases c <;> simp only [ownerOf, reduceCtorEq] at unowned
  case badCommand value =>
    have unassigned : assignedCommand value = false := by simpa [wellFormed] using formed
    refine frontKept_of_whileRunning (frontKept_of_banks ?_) run
    rw [writeCmd_of_not_assigned unassigned]
    rfl
  case registerWrite address value =>
    have plain : hasOwnWrite address = false := by simpa [wellFormed] using formed
    refine frontKept_of_whileRunning (frontKept_of_banks ?_) run
    obtain ⟨i, argument⟩ | nothing := hostWrite_of_not_own plain value s
    · rw [argument, setArg_banks]
    · rw [nothing]
  case profileWrite n k value =>
    exact frontKept_of_whileRunning (f := fun s => s.updLine n (·.writeProfile k value)) (frontKept_of_banks rfl) run
  case cycleConfigurationWrite value =>
    exact frontKept_of_whileRunning (f := fun s => { s with cycle := s.cycle.writeConfig value })
      (frontKept_of_banks rfl) run
  case serviceConfigurationWrite value =>
    exact frontKept_of_whileRunning (f := fun s => { s with service := s.service.writeConfig value })
      (frontKept_of_banks rfl) run
  case classMaskWrite value =>
    exact frontKept_of_whileRunning (f := fun s => { s with events := { s.events with mask := maskOf value } })
      (frontKept_of_banks rfl) run
  case syncEdge => exact frontKept_of_whileRunning (syncEdge_frontKept s) run
  case timerExpiry => exact frontKept_of_whileRunning (timerExpiry_frontKept s) run
  case timestampCounterTick => exact frontKept_of_whileRunning (f := timestampTick) (frontKept_of_banks rfl) run
  case hardwareReset => cases between
  case resetRelease => cases between
  case probeFrameEnd n samples =>
    simp only [exec, execProbeFrameEnd] at run
    refine frontKept_of_whileRunning (frontKept_of_banks ?_) run
    split
    · exact (probeEnd_lineOnly n _ s).banks
    · rfl
  case runningFrameEnd n samples =>
    simp only [exec, execRunningFrameEnd] at run
    refine frontKept_of_whileRunning ?_ run
    split
    · exact runningEnd_frontBank n _ s
    · exact runningEnd_frontBank n _ s
    · exact frontKept_of_banks rfl
  case endOfRecovery n =>
    refine frontKept_of_whileRunning (frontKept_of_banks ?_) run
    split <;> rfl
  case recoveryLimitExpiry n =>
    refine frontKept_of_whileRunning (frontKept_of_banks ?_) run
    split
    · exact (recoveryExpiry_lineOnly n s).banks
    · rfl

/-- Settles O38: the commands of the port by their owners, every other row by the work that it does. -/
theorem frontBankKeepsItsContents : Obligations.FrontBankKeepsItsContents := by
  intro c s t formed between run
  cases owned : ownerOf c with
  | some owner => exact exec_frontKept_of_owner between owned run
  | none => exact exec_frontKept_of_no_owner formed between owned run

end Sys2Proof.Machine
end

section
/-! PROOFS. The bank commands (R98 to R100): BANK_HOLD, and BANK_RELEASE with its late publication. -/

namespace Sys2Proof.Machine

/-! ## BANK_HOLD and BANK_RELEASE (R99, R100) -/

/-- The other bank of the back bank is the front bank. -/
@[simp] theorem swap_backId (u : BankUnit) : u.swap.backId = u.front := by
  cases h : u.front <;> simp [BankUnit.swap, BankUnit.backId, BankId.other, h]

/-- A bank updated while it is back is the front bank of the swap. -/
theorem updBack_swap_frontBank (u : BankUnit) (f : Bank → Bank) : (u.updBack f).swap.frontBank = f u.backBank := by
  rw [BankUnit.frontBank, swap_front, swap_bank, updBack_backId, updBack_backBank]

/-- The bank that was front is the back bank of the swap, with its contents (R88). -/
theorem updBack_swap_backBank (u : BankUnit) (f : Bank → Bank) : (u.updBack f).swap.backBank = u.frontBank := by
  rw [BankUnit.backBank, swap_backId, swap_bank, updBack_front, updBack_frontBank, BankUnit.frontBank]

/-- A late publication posts its event and swaps the banks, the back header marked LATE (R98). -/
theorem publishLate_eq (s : State) :
    publishLate s = { s.posted [.cycleLatePublish s.banks.backId] with
      banks := (s.banks.updBack fun b => { b with header := { b.header with publication := .late } }).swap } := by
  simp only [publishLate, updBack_backId]
  rfl

/-- Settles O37: each answer of the two owners; a HELD bank is back when it is marked, and front after the swap. -/
theorem bankHoldAndRelease : Obligations.BankHoldAndRelease := by
  intro s high
  have hold : exec .bankHold s = .next (takeCommand 0x10 bankHold s) := whileRunning_of_high high _
  have release : exec .bankRelease s = .next (takeCommand 0x11 bankRelease s) := whileRunning_of_high high _
  rw [hold, release]
  refine ⟨?_, fun other => ?_, fun held => ?_⟩
  · rw [takeCommand_accept (v := if s.banks.hold then 1 else 0)
      (t := { s.taken 0x10 with banks := { s.banks with hold := true } }) rfl]
    split <;> rfl
  · rw [takeCommand_accept (v := 0) (t := { s.taken 0x11 with banks := { s.banks with hold := false } })
      (by simp [bankRelease, other])]
    rfl
  · rw [takeCommand_accept (v := 1)
      (t := publishLate { s.taken 0x11 with banks := { s.banks with hold := false } })
      (by simp [bankRelease, held])]
    rw [publishLate_eq]
    exact ⟨_, rfl, updBack_hold _ _, updBack_backId _ _, rfl, updBack_swap_frontBank _ _,
      updBack_swap_backBank _ _, rfl⟩

end Sys2Proof.Machine
end

section
/-! PROOFS. The history rings and the velocity of a record (R107, R109, R113, R114): what an append leaves of a ring,
and when a velocity is formed. -/

namespace Sys2Proof.Machine

/-! ## An append to a ring (R107, R109) -/

/-- The entry appended is the newest. -/
theorem append_newest (r : Ring) (e : SampleEntry) : (r.append e).entries[0]? = some e := by
  simp [Ring.append, Config.ringDepth]

/-- Every older entry is one slot further back, and the sixteenth is lost. -/
theorem append_older (r : Ring) (e : SampleEntry) {k : Nat} (kept : k + 1 < Config.ringDepth) :
    (r.append e).entries[k + 1]? = r.entries[k]? := by
  rw [Ring.append, List.getElem?_take_of_lt kept, List.getElem?_cons_succ]

theorem append_length (r : Ring) (e : SampleEntry) :
    (r.append e).entries.length = min Config.ringDepth (r.entries.length + 1) := by
  rw [Ring.append, List.length_take, List.length_cons]

/-- Settles O39: the slots and the length of a ring after an append. -/
theorem ringAppendKeepsTheNewestSixteen : Obligations.RingAppendKeepsTheNewestSixteen := by
  intro r e _
  refine ⟨append_newest r e, fun _ kept => append_older r e kept, fun room => ?_, fun full => ?_, rfl⟩
  · rw [append_length, Config.ringDepth]
    omega
  · rw [append_length, full, Config.ringDepth]
    rfl

/-! ## The velocity (R113, R114) -/

/-- The third condition of R113, slot by slot. -/
theorem consecutive_iff (entries : List SampleEntry) (newest : SampleEntry) (w : Nat) :
    consecutive entries newest w = true ↔
      ∀ k, 1 ≤ k → k ≤ w → ∃ x, entries[k]? = some x ∧ x.cycle = newest.cycle - BitVec.ofNat 16 k := by
  rw [consecutive, List.all_eq_true]
  constructor
  · intro all k one le
    obtain ⟨j, rfl⟩ := Nat.exists_eq_add_of_le' one
    have slot := all j (List.mem_range.mpr le)
    split at slot
    · next x held => exact ⟨x, held, of_decide_eq_true slot⟩
    · cases slot
  · intro all j mem
    obtain ⟨x, held, cycle⟩ := all (j + 1) (Nat.le_add_left 1 j) (List.mem_range.mp mem)
    simp [held, cycle]

/-- With the newest entry and the entry a window earlier at hand, a velocity is formed by what the two hold and by the
cycles between them. -/
theorem velocityOf_of_slots {p : Profile} {continuity : Continuity} {entries : List SampleEntry}
    {newest oldest : SampleEntry} (first : entries[0]? = some newest)
    (last : entries[p.velocityWindow.toNat]? = some oldest) (v : Count48) :
    velocityOf p continuity entries = some v ↔
      (newest.status = .good ∧ oldest.status = .good ∧ consecutive entries newest p.velocityWindow.toNat = true ∧
        continuity = .valid) ∧
      ∃ e e', newest.extended = some e ∧ oldest.extended = some e' ∧ v = e - e' := by
  simp only [velocityOf, first, last, Bool.and_eq_true, decide_eq_true_eq]
  split
  · next holds =>
    obtain ⟨⟨⟨good, good'⟩, cycles⟩, valid⟩ := holds
    simp only [good, good', cycles, valid, and_self, true_and]
    cases newest.extended <;> cases oldest.extended <;> simp [eq_comm]
  · next fails =>
    exact iff_of_false (by simp) fun ⟨⟨good, good', cycles, valid⟩, _⟩ => fails ⟨⟨⟨good, good'⟩, cycles⟩, valid⟩

/-- A velocity is formed from two entries that the ring holds. -/
theorem slots_of_velocityOf {p : Profile} {continuity : Continuity} {entries : List SampleEntry} {v : Count48}
    (formed : velocityOf p continuity entries = some v) :
    ∃ newest oldest, entries[0]? = some newest ∧ entries[p.velocityWindow.toNat]? = some oldest := by
  simp only [velocityOf] at formed
  split at formed
  · next newest oldest first last => exact ⟨newest, oldest, first, last⟩
  · cases formed

/-- Settles O40: the velocity of two slots, with the condition on the cycles read slot by slot. -/
theorem velocityNeedsItsFourConditions : Obligations.VelocityNeedsItsFourConditions := by
  intro p continuity entries v
  constructor
  · intro formed
    obtain ⟨newest, oldest, first, last⟩ := slots_of_velocityOf formed
    obtain ⟨⟨good, good', cycles, valid⟩, e, e', holds, holds', difference⟩ :=
      (velocityOf_of_slots first last v).mp formed
    exact ⟨valid, newest, oldest, e, e', first, last, good, good', (consecutive_iff _ _ _).mp cycles, holds, holds',
      difference⟩
  · rintro ⟨valid, newest, oldest, e, e', first, last, good, good', cycles, holds, holds', difference⟩
    exact (velocityOf_of_slots first last v).mpr
      ⟨⟨good, good', (consecutive_iff _ _ _).mpr cycles, valid⟩, e, e', holds, holds', difference⟩

end Sys2Proof.Machine
end

section
/-! PROOFS. The laws of the history rings and of the velocity (R104, R106, R113): what they read of the part, and that
a record written, the work of a line and a cycle start keep them. -/

namespace Sys2Proof.Machine

/-! ## What the laws read -/

/-- The law of one ring (R104, R106). -/
abbrev Ring.Law (r : Ring) : Prop := r.entries.length ≤ Config.ringDepth ∧ ∀ e ∈ r.entries, e.Law

theorem ringLaw_append {r : Ring} {e : SampleEntry} (law : r.Law) (entry : e.Law) : (r.append e).Law := by
  obtain ⟨-, entries⟩ := law
  refine ⟨?_, fun x mem => ?_⟩
  · rw [append_length]
    exact Nat.min_le_left _ _
  · obtain rfl | older := List.mem_cons.mp (List.mem_of_mem_take mem)
    · exact entry
    · exact entries x older

theorem ringLaw_reset : Ring.reset.Law := by simp [Ring.Law, Ring.reset]

/-- A record without velocity meets the law. -/
theorem law_of_no_velocity {r : LineRecord} (absent : r.velocity = none) : r.Law :=
  fun present => by simp [absent] at present

/-- The law of the rings and that of the velocity, the second for each bank by its letter. -/
structure HistoryLaw (s : State) : Prop where
  rings : ∀ n, (s.line n).ring.Law
  records : ∀ (i : BankId) (n : LineNo), ((s.banks.bank i).records[n]).Law

theorem historyLaw_iff (s : State) : HistoryLaw s ↔ RingLaw s ∧ VelocityLaw s := by
  constructor
  · exact fun ⟨rings, records⟩ => ⟨rings, fun n => ⟨records .a n, records .b n⟩⟩
  · rintro ⟨rings, velocity⟩
    refine ⟨rings, fun i n => ?_⟩
    cases i with
    | a => exact (velocity n).1
    | b => exact (velocity n).2

/-- State `t` has the rings and the records of state `s`. -/
structure HistorySame (s t : State) : Prop where
  rings : ∀ n, (t.line n).ring = (s.line n).ring
  records : ∀ i, (t.banks.bank i).records = (s.banks.bank i).records

theorem HistorySame.refl (s : State) : HistorySame s s := ⟨fun _ => rfl, fun _ => rfl⟩

theorem HistorySame.law {s t : State} (same : HistorySame s t) (law : HistoryLaw s) : HistoryLaw t :=
  ⟨fun n => by rw [same.rings]; exact law.rings n, fun i n => by rw [same.records]; exact law.records i n⟩

/-- Work of one line that leaves its ring. -/
theorem historySame_of_lineOnly {n : LineNo} {s t : State} (only : LineOnly n s t)
    (ring : (t.line n).ring = (s.line n).ring) : HistorySame s t := by
  refine ⟨fun m => ?_, fun i => by rw [only.banks]⟩
  by_cases here : m = n
  · rw [here, ring]
  · rw [only.others m here]

/-- Work that leaves the lines and the bank unit. -/
theorem historyLaw_congr {s t : State} (law : HistoryLaw s) (lines : t.lines = s.lines) (banks : t.banks = s.banks) :
    HistoryLaw t :=
  HistorySame.law ⟨fun n => by simp only [State.line, lines], fun i => by rw [banks]⟩ law

/-- Work that writes one line, with its ring, and leaves the bank unit. -/
theorem historySame_of_setLine {n : LineNo} {s t : State} {l : Line} (lines : t.lines = (s.setLine n l).lines)
    (banks : t.banks = s.banks) (ring : l.ring = (s.line n).ring) : HistorySame s t := by
  refine ⟨fun m => ?_, fun i => by rw [banks]⟩
  have line : t.line m = (s.setLine n l).line m := by simp only [State.line, lines]
  rw [line, setLine_line]
  split
  · next here => rw [here, ring]
  · rfl

/-- Every bank is the back bank or the front bank (R88). -/
theorem eq_backId_or_eq_front (u : BankUnit) (i : BankId) : i = u.backId ∨ i = u.front := by
  unfold BankUnit.backId
  cases i <;> cases u.front <;> simp [BankId.other]

/-- Work that changes the records of the back bank only, with every new record lawful. -/
theorem records_law_of_frontKept {s t : State} (law : HistoryLaw s) (front : FrontKept s t)
    (back : ∀ n : LineNo, ((t.banks.bank s.banks.backId).records[n]).Law) (i : BankId) (n : LineNo) :
    ((t.banks.bank i).records[n]).Law := by
  obtain rfl | rfl := eq_backId_or_eq_front s.banks i
  · exact back n
  · rw [front]
    exact law.records s.banks.front n

/-- A change of the back header leaves every record. -/
theorem updBack_header_records (u : BankUnit) (f : Bank → Header) (i : BankId) :
    ((u.updBack fun b => { b with header := f b }).bank i).records = (u.bank i).records := by
  rw [updBack_bank]
  split <;> rfl

/-! ## The record of a running frame (R94, R106, R108, R113) -/

/-- A record whose status is that of the newest entry: its velocity needs a GOOD newest entry and VALID continuity. -/
theorem law_recordOf {l : Line} {e : SampleEntry} (newest : l.ring.entries[0]? = some e) (ew : Option ErrWrn)
    (latency : Option Nat) : (recordOf l e.status ew latency).Law := by
  intro present
  obtain ⟨v, formed⟩ := Option.isSome_iff_exists.mp present
  obtain ⟨valid, first, -, -, -, held, -, good, -⟩ := (velocityNeedsItsFourConditions _ _ _ v).mp formed
  obtain rfl : e = first := Option.some.inj (newest.symm.trans held)
  exact ⟨good, valid⟩

/-- The entry that a running frame leaves in the ring of its line. -/
abbrev frameEntry (s : State) (n : LineNo) (result : FrameResult) : SampleEntry :=
  { cycle := s.cycle.number, status := expectedStatus s n result,
    extended := if expectedStatus s n result = .good then some (posAfter s n result).extended else none,
    errWrn := result.errWrn, latency := result.latency }

/-- The items that a result makes present are those of its status (R12, R37, R106). -/
theorem law_frameEntry (s : State) (n : LineNo) (result : FrameResult) : (frameEntry s n result).Law := by
  cases result with
  | noAck => simp [SampleEntry.Law, expectedStatus, FrameResult.errWrn, FrameResult.latency]
  | noStart => simp [SampleEntry.Law, expectedStatus, FrameResult.errWrn, FrameResult.latency]
  | checkFail l => simp [SampleEntry.Law, expectedStatus, FrameResult.errWrn, FrameResult.latency]
  | checkOk l raw ew reply =>
    have judged : expectedStatus s n (.checkOk l raw ew reply) = .encError ∨
        expectedStatus s n (.checkOk l raw ew reply) = .jump ∨
        expectedStatus s n (.checkOk l raw ew reply) = .good := by
      simp only [expectedStatus]
      repeat' split
      all_goals simp
    obtain status | status | status := judged <;>
      simp [SampleEntry.Law, status, FrameResult.errWrn, FrameResult.latency]

/-! ## The work of a line -/

section Work

variable {s : State} {n : LineNo}

theorem departService_historySame (n : LineNo) (d : Departure) (why : LineReason) (s : State) :
    HistorySame s (departService n d why s) :=
  historySame_of_lineOnly (departService_lineOnly n d why s) (by rw [departService_line])

theorem enterProbing_historySame (n : LineNo) (da : Bool) (why : LineReason) (s : State) :
    HistorySame s (enterProbing n da why s) := by
  rw [enterProbing_eq]
  exact historySame_of_setLine rfl rfl rfl

theorem probeEnd_historySame (probing : (s.line n).state = .probing) (result : FrameResult) :
    HistorySame s (probeEnd n result s) := by
  refine historySame_of_lineOnly (probeEnd_lineOnly n result s) ?_
  have probed : ProbedAs _ _ _ := (probeJudged_probed (result := result) probing).1
  rw [probeEnd_line, deferred_ring, probed]
  rfl

theorem becomeReady_ring (l : Line) : l.becomeReady.ring = l.ring := by
  simp only [Line.becomeReady]
  split <;> rfl

/-- A recovery-limit expiry writes no record (R39). -/
theorem recoveryExpiry_historySame (n : LineNo) (s : State) : HistorySame s (recoveryExpiry n s) := by
  refine historySame_of_lineOnly (recoveryExpiry_lineOnly n s) ?_
  by_cases running : (s.line n).running = true
  · rw [recoveryExpiry_eq_countFailure running, countFailure_line (by rw [notReadyPosted_line]; exact running),
      notReadyPosted_line, counted_ring]
    rfl
  · by_cases probing : (s.line n).state = .probing
    · rw [recoveryExpiry_of_probing probing, probeTimeout]
      split
      · rw [departService_line, setLine_line_same]
        rfl
      · rw [setLine_line_same]
        rfl
    · rw [recoveryExpiry_of_other running probing, updLine_line_same]
      rfl

/-- A profile write leaves the ring of its line or clears it (R26, R112). -/
theorem writeProfile_historyLaw (law : HistoryLaw s) (n : LineNo) (k : Fin 5) (value : Word) :
    HistoryLaw (s.updLine n (·.writeProfile k value)) := by
  refine ⟨fun m => ?_, law.records⟩
  rw [updLine_line]
  split
  · unfold Line.writeProfile
    split
    · exact ringLaw_reset
    · exact law.rings m
  · exact law.rings m

/-- The end of a running frame appends one entry and writes one record. -/
theorem runningEnd_historyLaw (law : HistoryLaw s) (running : (s.line n).running = true) (result : FrameResult) :
    HistoryLaw (runningEnd n result s) := by
  have ring : ((frameRecord n result s).line n).ring = (s.line n).ring.append (frameEntry s n result) := by
    rw [frameRecord_line running]
  refine ⟨fun m => ?_, records_law_of_frontKept law (runningEnd_frontBank n result s) fun m => ?_⟩
  · by_cases here : m = n
    · rw [here, runningEnd_line, deferred_ring, ring]
      exact ringLaw_append (law.rings n) (law_frameEntry s n result)
    · obtain ⟨others, -⟩ := (runningEnd_lineWork n result s).only
      rw [others m here]
      exact law.rings m
  · rw [runningEnd_backRecord]
    split
    · exact law_recordOf (e := frameEntry s n result) (by rw [ring]; exact append_newest _ _) _ _
    · exact law.records s.banks.backId m

end Work

/-! ## The triggers -/

theorem law_missedEntry (cycle : BitVec 16) : (missedEntry cycle).Law := by
  simp [SampleEntry.Law, missedEntry]

/-- A cycle start appends the entries of the missed lines, and forms no velocity (R80, R93, R113). -/
theorem startCycle_historyLaw {s : State} (law : HistoryLaw s) (source : TriggerSource) :
    HistoryLaw (startCycle source s) := by
  have closed := startCycle_closed source s
  refine ⟨fun n => ?_, records_law_of_frontKept law (startCycle_frontKept source s) fun n => ?_⟩
  · rw [closed.line]
    cases mem : (s.line n).participates with
    | true =>
      obtain ⟨slot, queue, inFlight, line, -⟩ := cycleActive_line_of_participates (source := source) mem
      rw [line]
      exact law.rings n
    | false =>
      cases running : (s.line n).running with
      | true =>
        rw [cycleActive_line_of_missed running mem]
        exact ringLaw_append (law.rings n) (law_missedEntry _)
      | false =>
        rw [cycleActive_line_of_away running]
        exact law.rings n
  · obtain ⟨completed, back⟩ := closed.bank s.banks.backId
    rw [back, (cycleActive_backBank source s).2]
    exact law_of_no_velocity rfl

/-- An overrun is counted in the back header (R81). -/
theorem overrun_historySame (source : TriggerSource) (s : State) : HistorySame s (overrun source s) :=
  ⟨fun _ => rfl, updBack_header_records s.banks _⟩

theorem takeTrigger_historyLaw {s : State} (law : HistoryLaw s) (source : TriggerSource) :
    HistoryLaw (takeTrigger source s) := by
  unfold takeTrigger
  split
  · exact law
  · exact startCycle_historyLaw law source
  · exact (overrun_historySame source s).law law

end Sys2Proof.Machine
end

section
/-! PROOFS. Every step keeps the laws of the history rings and of the velocity (R104, R106, R113). -/

namespace Sys2Proof.Machine

/-! ## The owners of the commands -/

/-- The owner of a command leaves the rings and the records, whatever it answers. -/
def LeavesHistory (owner : State → Answer) : Prop := ∀ s, HistorySame s (owner s).state

/-- The owner of a command keeps the laws, whatever it answers. -/
def KeepsHistoryLaw (owner : State → Answer) : Prop := ∀ s, HistoryLaw s → HistoryLaw (owner s).state

theorem LeavesHistory.keeps {owner : State → Answer} (leaves : LeavesHistory owner) : KeepsHistoryLaw owner :=
  fun s => (leaves s).law

/-- An owner that leaves every line and the bank unit. -/
theorem leavesHistory_of_leavesLines {c : Instr} {owner : State → Answer} (owned : ownerOf c = some owner)
    (quiet : leavesLines c = true) (banks : LeavesBanks owner) : LeavesHistory owner := fun s =>
  ⟨fun n => by rw [owner_line_of_leavesLines owned quiet], fun i => by rw [banks]⟩

theorem withLine_leavesHistory {owner : LineNo → State → Answer} (leaves : ∀ n, LeavesHistory (owner n)) :
    LeavesHistory (withLine owner) := by
  intro s
  unfold withLine
  split
  · exact .refl s
  · exact leaves _ s

theorem lineEnable_leavesHistory (da : Bool) (n : LineNo) : LeavesHistory (lineEnable da n) := by
  intro s
  unfold lineEnable
  repeat' split
  · exact .refl s
  · exact .refl s
  · exact enterProbing_historySame n da .enabled s

theorem lineRestart_leavesHistory (da : Bool) (n : LineNo) : LeavesHistory (lineRestart da n) := by
  intro s
  unfold lineRestart
  split
  · exact .refl s
  · exact enterProbing_historySame n da .restarted s

theorem lineDisable_leavesHistory (n : LineNo) : LeavesHistory (lineDisable n) := by
  intro s
  unfold lineDisable
  repeat' split
  · exact .refl s
  · exact historySame_of_setLine rfl rfl rfl
  · exact departService_historySame n .off .disabled s

theorem triggerCommand_keepsHistory : KeepsHistoryLaw triggerCommand := by
  intro s law
  unfold triggerCommand
  split
  · exact law
  · exact takeTrigger_historyLaw law .host

/-- A late publication marks the back header, and swaps the banks with their records (R98). -/
theorem publishLate_historySame (s : State) : HistorySame s (publishLate s) := by
  refine ⟨fun _ => rfl, fun i => ?_⟩
  rw [publishLate_eq, swap_bank]
  exact updBack_header_records s.banks _ i

theorem bankRelease_leavesHistory : LeavesHistory bankRelease := by
  intro s
  simp only [bankRelease]
  split
  · obtain ⟨rings, records⟩ := publishLate_historySame { s with banks := { s.banks with hold := false } }
    exact ⟨rings, records⟩
  · exact ⟨fun _ => rfl, fun _ => rfl⟩

theorem setPreset_leavesHistory (n : LineNo) : LeavesHistory (setPreset n) := by
  intro s
  unfold setPreset
  split
  · exact historySame_of_setLine rfl rfl rfl
  · exact .refl s

theorem cancelPreset_leavesHistory (n : LineNo) : LeavesHistory (cancelPreset n) := by
  intro s
  unfold cancelPreset
  split
  · exact historySame_of_setLine rfl rfl rfl
  · exact .refl s

theorem ackContinuity_leavesHistory (n : LineNo) : LeavesHistory (ackContinuity n) := by
  intro s
  unfold ackContinuity
  split
  · exact historySame_of_setLine rfl rfl rfl
  · exact .refl s

theorem svcOpen_leavesHistory (n : LineNo) : LeavesHistory (svcOpen n) := by
  intro s
  unfold svcOpen openOn
  repeat' split
  · exact .refl s
  · exact .refl s
  · exact historySame_of_setLine rfl rfl rfl
  · exact .refl s

/-- A cancellation changes the queue of a line or its ABORT owed. -/
theorem svcCancel_leavesHistory : LeavesHistory svcCancel := by
  intro s
  simp only [svcCancel]
  repeat' split
  · exact historySame_of_setLine rfl rfl rfl
  · exact historySame_of_setLine rfl rfl rfl
  · exact .refl s
  · exact .refl s

/-- After a reset every ring is empty, and no record has a velocity (R103, R112). -/
theorem resetBlocks_historyLaw (s : State) : HistoryLaw (resetBlocks s) := by
  refine ⟨fun n => ?_, fun i n => law_of_no_velocity ?_⟩
  · rw [resetBlocks_line]
    exact ringLaw_reset
  · cases i <;> simp [resetBlocks, State.reset, BankUnit.reset, BankUnit.bank, Bank.reset, LineRecord.reset]

/-- Every owner of a command keeps the laws. -/
theorem ownerOf_keepsHistory {c : Instr} {owner : State → Answer} (owned : ownerOf c = some owner) :
    KeepsHistoryLaw owner := by
  have quietly := leavesHistory_of_leavesLines owned
  cases c <;> simp only [ownerOf, Option.some.injEq, reduceCtorEq] at owned
  all_goals subst owned
  case lineEnable da => exact (withLine_leavesHistory (lineEnable_leavesHistory da)).keeps
  case lineDisable => exact (withLine_leavesHistory lineDisable_leavesHistory).keeps
  case lineRestart da => exact (withLine_leavesHistory (lineRestart_leavesHistory da)).keeps
  case cycleStart => exact (quietly rfl cycleStart_leavesBanks).keeps
  case cycleStop => exact (quietly rfl cycleStop_leavesBanks).keeps
  case trigger => exact triggerCommand_keepsHistory
  case bankHold => exact fun _ ⟨rings, records⟩ => ⟨rings, records⟩
  case bankRelease => exact bankRelease_leavesHistory.keeps
  case setPreset => exact (withLine_leavesHistory setPreset_leavesHistory).keeps
  case cancelPreset => exact (withLine_leavesHistory cancelPreset_leavesHistory).keeps
  case ackContinuity => exact (withLine_leavesHistory ackContinuity_leavesHistory).keeps
  case svcOpen => exact (withLine_leavesHistory svcOpen_leavesHistory).keeps
  case svcCancel => exact svcCancel_leavesHistory.keeps
  case svcRelease => exact (quietly rfl svcRelease_leavesBanks).keeps
  case eventPop => exact (quietly rfl eventPop_leavesBanks).keeps
  case eventFlush => exact (quietly rfl fun _ => rfl).keeps
  case faultClear => exact (quietly rfl fun _ => rfl).keeps
  case softReset => exact fun s _ => historyLaw_congr (resetBlocks_historyLaw s) rfl rfl

/-! ## The effects of a step -/

/-- Every effect of a step keeps the laws. -/
theorem stepEffect_historyLaw {s t : State} (law : HistoryLaw s) (effect : StepEffect s t) : HistoryLaw t := by
  cases effect with
  | none => exact law
  | @command c owner owned code =>
    have taken : HistoryLaw (s.taken code) := historyLaw_congr law rfl rfl
    exact historyLaw_congr (ownerOf_keepsHistory owned (s.taken code) taken) rfl rfl
  | badCommand value => exact historyLaw_congr law rfl rfl
  | argument i value => exact historyLaw_congr law rfl rfl
  | cycleConfiguration value => exact historyLaw_congr law rfl rfl
  | serviceConfiguration value => exact historyLaw_congr law rfl rfl
  | classMask value => exact historyLaw_congr law rfl rfl
  | profile n k value => exact writeProfile_historyLaw law n k value
  | syncEdge =>
    unfold syncEdge
    split
    · exact takeTrigger_historyLaw law .sync
    · exact law
  | timerExpiry =>
    unfold timerExpiry
    split
    · have restarted : HistoryLaw { s with
          cycle := { s.cycle with timer := s.cycle.timer.restart s.cycle.period.toNat } } :=
        historyLaw_congr law rfl rfl
      exact takeTrigger_historyLaw restarted .timer
    · exact law
  | tick => exact HistorySame.law (s := s) ⟨fun n => by rw [timestampTick_line]; rfl, fun _ => rfl⟩ law
  | probeEnd samples probing inFlight => exact (probeEnd_historySame probing _).law law
  | runningEnd samples running inFlight => exact runningEnd_historyLaw law running _
  | @becomeReady n observes => exact (historySame_of_setLine rfl rfl (becomeReady_ring (s.line n))).law law
  | @recoveryExpiry n reached => exact (recoveryExpiry_historySame n s).law law
  | resetLow => exact historyLaw_congr (resetBlocks_historyLaw s) rfl rfl
  | resetHigh => exact resetBlocks_historyLaw s

/-- Settles O58: a step is one of the effects on the state with its front command taken, and each keeps both laws. -/
theorem stepKeepsRingAndVelocityLaws : Obligations.StepKeepsRingAndVelocityLaws := by
  intro s t rings velocity run
  obtain ⟨pending, effect⟩ := step_effect run
  have law : HistoryLaw { s with pending := pending } := (historyLaw_iff _).mpr ⟨rings, velocity⟩
  exact (historyLaw_iff t).mp (stepEffect_historyLaw law effect)

end Sys2Proof.Machine
end

section
/-! PROOFS. The laws of the service engine (R118, R123, R124): what they read of one line and of one context, and what
work other than an allocation or a reset does to them. -/

namespace Sys2Proof.Machine

/-! ## One context (R118, R119) -/

/-- What work other than an allocation or a reset does to a context: its generation is kept, a FREE one stays FREE, and
the law of R118 is kept. -/
structure Context.Moves (x y : Context) : Prop where
  generation : y.generation = x.generation
  free : x.body = .free → y.body = .free
  lawful : x.lawful = true → y.lawful = true

theorem Context.Moves.refl (x : Context) : x.Moves x := ⟨rfl, id, id⟩

theorem Context.Moves.trans {x y z : Context} (h : x.Moves y) (k : y.Moves z) : x.Moves z :=
  ⟨k.generation.trans h.generation, k.free ∘ h.free, k.lawful ∘ h.lawful⟩

theorem moves_of_eq {x y : Context} (h : y = x) : x.Moves y := h ▸ .refl x

/-- A body written over one that is not FREE. -/
theorem setBody_moves {s : State} {c : CtxNo} {b : ContextBody} (taken : (s.ctx c).body ≠ .free)
    (law : (s.ctx c).lawful = true → Context.lawful { generation := (s.ctx c).generation, body := b } = true)
    (d : CtxNo) : (s.ctx d).Moves ((s.setBody c b).ctx d) := by
  rw [setBody_ctx]
  split
  · next here => subst here; exact ⟨rfl, fun free => absurd free taken, law⟩
  · exact .refl _

/-- A finished context is lawful when it holds no data and did not end DONE (R118). -/
theorem finished_lawful_of_no_data {x : Context} {r : Request} {a : Nat} {result : Result}
    (body : x.body = .finished r a result) (empty : result.data = []) (kind : result.kind ≠ .done) :
    x.lawful = true := by
  cases h : result.kind <;> simp_all [Context.lawful, dataCount]

/-- A departure moves every context: those that it fails hold no data (R118, R153). -/
theorem fail_moves (reason : FailureReason) (x : Context) : x.Moves { x with body := x.body.fail reason } := by
  obtain ⟨generation, body⟩ := x
  cases body with
  | free => exact .refl _
  | finished r a result => exact .refl _
  | queued r => exact ⟨rfl, nofun, fun _ => finished_lawful_of_no_data rfl rfl (by simp [failedResult])⟩
  | active r p => exact ⟨rfl, nofun, fun _ => finished_lawful_of_no_data rfl rfl (by simp [failedResult])⟩

/-! ## One line (R123, R124) -/

/-- What the queue law and the law of R124 say of line `n`: beside its queue, a line with an ACTIVE context runs, and a
line with a QUEUED one is in service. -/
structure ServiceFits (s : State) (n : LineNo) : Prop where
  queue : QueueFits s n
  running : ∀ c, (s.ctx c).body.activeOn = some n → (s.line n).running = true
  served : ∀ c, (s.ctx c).body.queuedOn = some n → (s.line n).state.inService = true

/-- The two laws say this of every line. -/
theorem serviceFits_iff (s : State) : (∀ n, ServiceFits s n) ↔ QueueLaw s ∧ ActiveLaw s := by
  constructor
  · intro fits
    exact ⟨fun n => ⟨(fits n).queue.once, (fits n).queue.queued⟩, fun c c' n => (fits n).queue.unique c c',
      fun c n => (fits n).running c, fun c n => (fits n).served c⟩
  · rintro ⟨queue, active⟩ n
    exact ⟨queueFits_of_laws queue active n, fun c => active.2.1 c n, fun c => active.2.2 c n⟩

/-- A line that keeps its queue, and stays in RUN or DEGRADED and in service where it was so. -/
structure Line.Stays (l k : Line) : Prop where
  queue : k.queue = l.queue
  running : l.running = true → k.running = true
  served : l.state.inService = true → k.state.inService = true

theorem stays_of_state {l k : Line} (queue : k.queue = l.queue) (state : k.state = l.state) : l.Stays k :=
  ⟨queue, by simp only [Line.running, state]; exact id, by simp only [state]; exact id⟩

theorem Line.Stays.refl (l : Line) : l.Stays l := stays_of_state rfl rfl

/-- A line that does not run may enter any state in service. -/
theorem stays_of_served {l k : Line} (queue : k.queue = l.queue) (idle : ¬l.running = true)
    (served : k.state.inService = true) : l.Stays k :=
  ⟨queue, fun running => absurd running idle, fun _ => served⟩

/-- A line that runs may change between RUN and DEGRADED. -/
theorem stays_of_running {l k : Line} (queue : k.queue = l.queue) (running : k.running = true) : l.Stays k :=
  ⟨queue, fun _ => running, fun _ => inService_of_running running⟩

/-- Line `n` is in the lawful state in `t` when it was so in `s`, it stays as `Line.Stays` says, the same contexts are
QUEUED for it, and none is newly ACTIVE on it. -/
theorem ServiceFits.stays {s t : State} {n : LineNo} (fits : ServiceFits s n) (line : (s.line n).Stays (t.line n))
    (queued : ∀ c, (t.ctx c).body.queuedOn = some n ↔ (s.ctx c).body.queuedOn = some n)
    (active : ∀ c, (t.ctx c).body.activeOn = some n → (s.ctx c).body.activeOn = some n) : ServiceFits t n := by
  obtain ⟨⟨once, stands, unique⟩, running, served⟩ := fits
  refine ⟨⟨line.queue ▸ once, fun c => ?_, fun c c' h h' => unique c c' (active c h) (active c' h')⟩,
    fun c h => line.running (running c (active c h)), fun c h => line.served (served c ((queued c).mp h))⟩
  rw [line.queue, stands, queued]

/-! ## Work that keeps the laws -/

/-- Work other than an allocation or a reset, as the laws see it. -/
structure ServiceKept (s t : State) : Prop where
  moves : ∀ c, (s.ctx c).Moves (t.ctx c)
  fits : (∀ n, ServiceFits s n) → ∀ n, ServiceFits t n

theorem ServiceKept.refl (s : State) : ServiceKept s s := ⟨fun _ => .refl _, id⟩

theorem ServiceKept.trans {s t u : State} (h : ServiceKept s t) (k : ServiceKept t u) : ServiceKept s u :=
  ⟨fun c => (h.moves c).trans (k.moves c), k.fits ∘ h.fits⟩

/-- Work that leaves the contexts, and lines that stay. -/
theorem serviceKept_of_lines {s t : State} (ctx : ∀ c, t.ctx c = s.ctx c) (lines : ∀ n, (s.line n).Stays (t.line n)) :
    ServiceKept s t :=
  ⟨fun c => moves_of_eq (ctx c), fun fits n =>
    (fits n).stays (lines n) (fun c => by rw [ctx]) fun c => by rw [ctx]; exact id⟩

/-- Work that leaves the contexts and the lines. -/
theorem serviceKept_of_same {s t : State} (ctx : ∀ c, t.ctx c = s.ctx c) (line : ∀ n, t.line n = s.line n) :
    ServiceKept s t :=
  serviceKept_of_lines ctx fun n => by rw [line]; exact .refl _

/-- Work of one line that leaves the contexts. -/
theorem serviceKept_of_lineOnly {n : LineNo} {s t : State} (only : LineOnly n s t) (ctx : ∀ c, t.ctx c = s.ctx c)
    (line : (s.line n).Stays (t.line n)) : ServiceKept s t := by
  refine serviceKept_of_lines ctx fun m => ?_
  by_cases here : m = n
  · rw [here]; exact line
  · rw [only.others m here]; exact .refl _

theorem updLine_serviceKept {n : LineNo} {s : State} {f : Line → Line} (line : (s.line n).Stays (f (s.line n))) :
    ServiceKept s (s.updLine n f) :=
  serviceKept_of_lineOnly (updLine_lineOnly n s f) (fun _ => rfl) (by rwa [updLine_line_same])

theorem setLine_serviceKept {n : LineNo} {s : State} {l : Line} (line : (s.line n).Stays l) :
    ServiceKept s (s.setLine n l) :=
  updLine_serviceKept (f := fun _ => l) line

theorem post_serviceKept (i : EventInfo) (s : State) : ServiceKept s (post i s) :=
  serviceKept_of_same (fun _ => rfl) fun _ => rfl

/-- Contexts that end, or change while they stay ACTIVE, with the lines left: no context is newly QUEUED or ACTIVE. -/
theorem serviceKept_of_contexts {s t : State} (moves : ∀ c, (s.ctx c).Moves (t.ctx c))
    (lines : ∀ n, (s.line n).Stays (t.line n))
    (queued : ∀ c, (t.ctx c).body.queuedOn = (s.ctx c).body.queuedOn)
    (active : ∀ c n, (t.ctx c).body.activeOn = some n → (s.ctx c).body.activeOn = some n) : ServiceKept s t :=
  ⟨moves, fun fits n => (fits n).stays (lines n) (fun c => by rw [queued]) fun c => active c n⟩

/-- A body written over one that is not QUEUED, and that does not wait for a line unless it was ACTIVE on it. -/
theorem setBody_serviceKept {s : State} {c : CtxNo} {b : ContextBody}
    (moves : ∀ d, (s.ctx d).Moves ((s.setBody c b).ctx d)) (queued : b.queuedOn = (s.ctx c).body.queuedOn)
    (active : ∀ n, b.activeOn = some n → (s.ctx c).body.activeOn = some n) : ServiceKept s (s.setBody c b) := by
  refine serviceKept_of_contexts moves (fun _ => .refl _) (fun d => ?_) fun d n => ?_
  · rw [setBody_ctx]
    split
    · next here => rw [here]; exact queued
    · rfl
  · rw [setBody_ctx]
    split
    · next here => rw [here]; exact active n
    · exact id

/-! ## The service engine at a frame end (R142 to R151) -/

section FrameEnd

variable {s : State} {c : CtxNo} {r : Request} {p : Progress}

/-- A failed attempt leaves its context lawful: RESTARTING, or FAILED with no data. -/
theorem failAttempt_lawful (reason : FailureReason) (status : Option EncStatus) :
    ((failAttempt c r p reason status s).ctx c).lawful = true := by
  simp only [failAttempt]
  split
  · simp [Context.lawful, Phase.lawful]
  · exact finished_lawful_of_no_data (by rw [finishCtx, post_ctx, setBody_ctx_same]) rfl (by simp [failedResult])

theorem pairBytes_length (nibbles : List Nibble) : (pairBytes nibbles).length = nibbles.length / 2 := by
  induction nibbles using pairBytes.induct with
  | case1 high low rest ih => simp only [pairBytes, List.length_cons, ih]; omega
  | case2 nibbles short =>
    match nibbles, short with
    | [], _ => rfl
    | [_], _ => simp [pairBytes]
    | high :: low :: rest, short => exact absurd rfl (short high low rest)

/-- A whole reply brings count bytes for an OK reply to a READ, and none for any other (R20, R118). -/
theorem replyData_length {status : EncStatus} {nibbles : List Nibble}
    (whole : nibbles.length + 1 = expectedReply status r.op) (data : List Byte) (frames : Nat) :
    (replyData status r.op nibbles).length = dataCount r (doneResult status data frames) := by
  simp only [replyData, dataCount, doneResult]
  cases status <;> cases op : r.op
  case ok.read count =>
    simp only [op, expectedReply] at whole
    simp only [pairBytes_length, List.length_tail]
    omega
  all_goals rfl

theorem two_le_expectedReply (status : EncStatus) (op : SvcOp) : 2 ≤ expectedReply status op := by
  unfold expectedReply
  split <;> omega

/-- An attempt that goes on keeps the law of its context: the reply grows up to its expected length, and a whole one
brings the bytes that R118 counts. -/
theorem advanceCtx_lawful (x : SlotInFlight) {reply : Slot} (go : GoesOn r p.phase reply)
    (body : (s.ctx c).body = .active r p) (law : p.phase.lawful r = true) :
    ((advanceCtx c r p x reply s).ctx c).lawful = true := by
  have unchanged : (s.ctx c).lawful = true := by simp only [Context.lawful, body, law]
  generalize hp : p.phase = phase at go law
  cases go with
  | restarting => rwa [advanceCtx_restarting x s reply hp]
  | sending i hr =>
    rw [advanceCtx_sending x s hp hr]
    split
    · simp only [setBody_ctx_same, Context.lawful]
      split <;> rfl
    · exact unchanged
  | waiting hw => rw [advanceCtx_waiting x s hp hw]; simp [Context.lawful, Phase.lawful]
  | status w hd =>
    have long := two_le_expectedReply
    rw [advanceCtx_status x s hp hd]
    simp [Context.lawful, Phase.lawful]
    exact long _ _
  | nibble status d hl =>
    rw [advanceCtx_nibble x s d hp hl]
    simp only [Phase.lawful, Bool.and_eq_true, decide_eq_true_eq] at law
    simp [Context.lawful, Phase.lawful, law.1.1]
    omega
  | accepted hl busy check =>
    simp only [Phase.lawful, Bool.and_eq_true, decide_eq_true_eq] at law
    obtain ⟨⟨expected, -⟩, -⟩ := law
    rw [advanceCtx_accepted x s hp hl busy check]
    simp only [finishCtx, post_ctx, setBody_ctx_same, Context.lawful, decide_eq_true_eq]
    exact replyData_length (hl.trans expected) _ _

/-- A frame end keeps the law of its ACTIVE context. -/
theorem ctxFrameEnd_lawful (x : SlotInFlight) (result : FrameResult) (law : p.phase.lawful r = true) :
    ((ctxFrameEnd c r p x result s).ctx c).lawful = true := by
  cases h : expectedFailure r p.phase result with
  | some reason => rw [ctxFrameEnd_of_failure c r p x s h]; exact failAttempt_lawful reason _
  | none =>
    cases lost : result.reply with
    | none =>
      have restarting : p.phase = .restarting := by
        by_contra other
        simp [expectedFailure_of_no_reply r p.phase lost, other] at h
      rw [ctxFrameEnd_of_restarting c r x s lost restarting]
      simpa [Context.lawful] using law
    | some reply =>
      cases result <;> simp only [FrameResult.reply, reduceCtorEq] at lost
      rw [ctxFrameEnd_of_checkOk]
      exact advanceCtx_lawful (p := p.counted) x (goesOn_of_no_failure h) (by rw [setBody_ctx_same]) law

end FrameEnd

/-- A frame end gives one body to its ACTIVE context and leaves the others; a context that goes on is ACTIVE on the line
still. -/
theorem serviceFrameEnd_ctx_of_active {s : State} {n : LineNo} {c : CtxNo} {r : Request} {p : Progress}
    (result : FrameResult) (active : ActiveOn s n c r p) :
    ∃ b : ContextBody, (∀ m, b.activeOn = some m → m = n) ∧
      ∀ d, (serviceFrameEnd n result s).ctx d = (s.setBody c b).ctx d := by
  obtain ⟨e, he⟩ := serviceFrameEnd_effect n c r p (s.line n).slot result
  refine ⟨e.body r, fun m here => ?_, fun d => ?_⟩
  · obtain ⟨-, -, onLine⟩ := active
    cases e <;> simp_all [CtxEffect.body, ContextBody.activeOn]
  · rw [he s active rfl, setSlot_ctx, e.apply_ctx, setBody_ctx]
    simp only [judgeDelivery_ctx]

/-- The service engine's work at a frame end keeps the laws: its ACTIVE context goes on or finishes. -/
theorem serviceFrameEnd_serviceKept (n : LineNo) (result : FrameResult) (s : State) :
    ServiceKept s (serviceFrameEnd n result s) := by
  have lines : ∀ m, (s.line m).Stays ((serviceFrameEnd n result s).line m) := fun m => by
    by_cases here : m = n
    · rw [here, serviceFrameEnd_line]; exact stays_of_state rfl rfl
    · rw [(serviceFrameEnd_serviceOnly n result s).others m here]; exact .refl _
  obtain idle | ⟨c, r, p, active⟩ := activeCtx_cases s n
  · exact serviceKept_of_lines (fun d => by simp [serviceFrameEnd_of_none result idle]) lines
  · obtain ⟨b, onLine, ctx⟩ := serviceFrameEnd_ctx_of_active result active
    obtain ⟨-, body, here⟩ := id active
    have lawful : (s.ctx c).lawful = true → ((s.setBody c b).ctx c).lawful = true := fun law => by
      rw [← ctx, serviceFrameEnd_of_active result active]
      exact ctxFrameEnd_lawful _ _ (by simpa only [Context.lawful, body] using law)
    refine serviceKept_of_contexts (fun d => ?_) lines (serviceFrameEnd_queuedOn n result s) fun d m => ?_
    · rw [ctx]
      exact setBody_moves (by simp [body]) (by rwa [setBody_ctx_same] at lawful) d
    · rw [ctx, setBody_ctx]
      split
      · next same => intro h; rw [onLine m h, same, body, ContextBody.activeOn, here]
      · exact id

end Sys2Proof.Machine
end

section
/-! PROOFS. The work of a line and the triggers keep the laws of the service engine (R118, R123, R124, R139, R153). -/

namespace Sys2Proof.Machine

/-! ## A departure (R32, R153) -/

/-- The departure of line `n` leaves the contexts that wait for another line waiting for it. -/
theorem failedContext_elsewhere {n m : LineNo} (other : m ≠ n) (reason : FailureReason) (x : Context) :
    ((failedContext n reason x).body.queuedOn = some m ↔ x.body.queuedOn = some m) ∧
      ((failedContext n reason x).body.activeOn = some m ↔ x.body.activeOn = some m) := by
  by_cases mine : x.body.waitsFor n
  · have before : ¬x.body.waitsFor m := fun waits => other (waitsFor_unique waits mine)
    have after : ¬(failedContext n reason x).body.waitsFor m := by
      rw [failedContext_of_waitsFor reason mine]
      cases x.body <;> simp_all [ContextBody.fail, ContextBody.waitsFor, ContextBody.activeOn, ContextBody.queuedOn]
    exact ⟨iff_of_false (after ∘ .inr) (before ∘ .inr), iff_of_false (after ∘ .inl) (before ∘ .inl)⟩
  · rw [failedContext_of_not_waitsFor reason mine]
    exact ⟨.rfl, .rfl⟩

/-- A departure fails the contexts that wait for its line, and leaves every other line its own. -/
theorem departService_serviceKept (n : LineNo) (d : Departure) (why : LineReason) (s : State) :
    ServiceKept s (departService n d why s) := by
  have ctx : ∀ c, (departService n d why s).ctx c = (failLine n d.reason (announced n d why s)).ctx c := fun c => by
    rw [State.ctx, departService_service]; rfl
  refine ⟨fun c => ?_, fun fits m => ?_⟩
  · simp only [ctx, failLine, updLine_ctx, failAll_ctx]
    split
    · exact fail_moves d.reason (s.ctx c)
    · exact .refl (s.ctx c)
  · rw [departService_eq_departed (fits n).queue]
    by_cases here : m = n
    · subst here
      have none' : ∀ c, ¬((departed m d why s).ctx c).body.waitsFor m := fun c => by
        rw [departed_ctx]; exact failedContext_not_waitsFor m _ _
      exact ⟨departed_fits m d why s, fun c h => absurd (.inl h) (none' c), fun c h => absurd (.inr h) (none' c)⟩
    · refine (fits m).stays (by rw [departed_line_ne d why s here]; exact .refl _) (fun c => ?_) fun c => ?_
      · rw [departed_ctx]; exact (failedContext_elsewhere here _ _).1
      · rw [departed_ctx]; exact (failedContext_elsewhere here _ _).2.mp

/-! ## A frame start (R139 to R141) -/

/-- What the choice of a request slot for line `n` makes of a state: the slot in flight is set; the line's ACTIVE context
restarts; or, with none ACTIVE, the QUEUED one at the head of its queue becomes ACTIVE. -/
inductive SlotChosen (n : LineNo) (s : State) : State → Prop where
  | sent (x : SlotInFlight) : SlotChosen n s (s.setSlot n x)
  | restarted {c : CtxNo} {r : Request} {p : Progress} (x : SlotInFlight) (active : ActiveOn s n c r p) :
      SlotChosen n s
        ((s.setBody c (.active r { p with attempts := p.attempts + 1, phase := .sending 0 })).setSlot n x)
  | activated {c : CtxNo} {r : Request} {rest : List CtxNo} (x : SlotInFlight) (idle : s.activeCtx n = none)
      (queue : (s.line n).queue = c :: rest) (body : (s.ctx c).body = .queued r) :
      SlotChosen n s
        (((s.setBody c (.active r { attempts := 1, framesUsed := 0, phase := .sending 0 })).updLine n fun l =>
          { l with queue := rest }).setSlot n x)

theorem chooseSlot_chosen (n : LineNo) (s : State) : SlotChosen n s (chooseSlot n s).2 := by
  unfold chooseSlot
  split
  · exact .sent _
  · split
    · next c found =>
      obtain ⟨r', p', body', onLine⟩ := activeCtx_some found
      split
      · next r p body =>
        have active : ActiveOn s n c r p := by
          obtain ⟨rfl, rfl⟩ := ContextBody.active.inj (body'.symm.trans body)
          exact ⟨found, body, onLine⟩
        split
        · exact .sent _
        · exact .restarted _ active
        · exact .sent _
        · exact .sent _
      · exact .sent _
    · next idle =>
      split
      · exact .sent _
      · next c rest queue =>
        split
        · next r body => exact .activated _ idle queue body
        · exact .sent _

theorem setSlot_serviceKept (n : LineNo) (x : SlotInFlight) (s : State) : ServiceKept s (s.setSlot n x) :=
  updLine_serviceKept (stays_of_state rfl rfl)

/-- With none found, no context is ACTIVE on the line. -/
theorem activeOn_ne_of_none {s : State} {n : LineNo} (idle : s.activeCtx n = none) (c : CtxNo) :
    (s.ctx c).body.activeOn ≠ some n := by
  cases body : (s.ctx c).body with
  | active r p => simpa [ContextBody.activeOn] using activeCtx_none idle body
  | free => simp [ContextBody.activeOn]
  | queued r => simp [ContextBody.activeOn]
  | finished r a x => simp [ContextBody.activeOn]

/-- The context at the head of the queue of a line that runs, with none ACTIVE on it, becomes ACTIVE: it leaves the queue,
and is the only one ACTIVE on the line. -/
theorem activated_fits {n : LineNo} {s t : State} {c : CtxNo} {r : Request} {p : Progress} {rest : List CtxNo}
    (fits : ∀ m, ServiceFits s m) (law : QueueLaw t) (running : (s.line n).running = true)
    (idle : s.activeCtx n = none) (queue : (s.line n).queue = c :: rest) (body : (s.ctx c).body = .queued r)
    (ctx : ∀ d, t.ctx d = (s.setBody c (.active r p)).ctx d) (state : (t.line n).state = (s.line n).state)
    (others : ∀ m, m ≠ n → t.line m = s.line m) (m : LineNo) : ServiceFits t m := by
  have onLine : r.line = n := by
    have stands := ((fits n).queue.queued c).mp (by simp [queue])
    simpa [body, ContextBody.queuedOn] using stands
  have here : (t.ctx c).body = .active r p := by rw [ctx, setBody_ctx_same]
  have kept : ∀ d, d ≠ c → t.ctx d = s.ctx d := fun d ne => by rw [ctx, setBody_ctx_ne _ _ ne]
  by_cases same : m = n
  · subst same
    have line : (s.line m).Stays { t.line m with queue := (s.line m).queue } := stays_of_state rfl state
    have only : ∀ d, (t.ctx d).body.activeOn = some m → d = c := fun d active => by
      by_contra ne
      rw [kept d ne] at active
      exact activeOn_ne_of_none idle d active
    refine ⟨⟨(law m).1, (law m).2, fun d d' h h' => (only d h).trans (only d' h').symm⟩, fun _ _ => line.running running,
      fun _ _ => line.served (inService_of_running running)⟩
  · refine (fits m).stays (by rw [others m same]; exact .refl _) (fun d => ?_) fun d => ?_
    · by_cases head : d = c
      · rw [head, here, body]
        simp [ContextBody.queuedOn, onLine, Ne.symm same]
      · rw [kept d head]
    · by_cases head : d = c
      · rw [head, here]
        simp [ContextBody.activeOn, onLine, Ne.symm same]
      · rw [kept d head]; exact id

/-- The choice of a slot for a line that runs keeps the laws. -/
theorem chooseSlot_serviceKept {n : LineNo} {s : State} (running : (s.line n).running = true) :
    ServiceKept s (chooseSlot n s).2 := by
  have sends (c : CtxNo) (r : Request) (a f : Nat) :
      Context.lawful { generation := (s.ctx c).generation, body := .active r ⟨a, f, .sending 0⟩ } = true := rfl
  have queues := chooseSlot_queueLaw (s := s) (n := n)
  have others := (chooseSlot_serviceOnly n s).others
  have state : ((chooseSlot n s).2.line n).state = (s.line n).state := by rw [chooseSlot_line]
  have chosen := chooseSlot_chosen n s
  generalize (chooseSlot n s).2 = t at queues others state chosen
  cases chosen with
  | sent x => exact setSlot_serviceKept n x s
  | restarted x active =>
    obtain ⟨-, body, -⟩ := active
    refine (setBody_serviceKept (setBody_moves (by simp [body]) fun _ => sends _ _ _ _) ?_ ?_).trans
      (setSlot_serviceKept n x _)
    · rw [body]; rfl
    · rw [body]; exact fun _ => id
  | activated x idle queue body =>
    exact ⟨setBody_moves (by simp [body]) fun _ => sends _ _ _ _, fun fits =>
      activated_fits fits (queues ((serviceFits_iff s).mp fits).1) running idle queue body (fun _ => rfl) state others⟩

/-- A running frame started for a line that runs. -/
theorem startRunningFrame_serviceKept {n : LineNo} {s : State} (running : (s.line n).running = true) :
    ServiceKept s (startRunningFrame n s) := by
  have framed : startRunningFrame n s =
      (chooseSlot n s).2.updLine n fun l => l.startFrame (chooseSlot n s).1 l.deadline := rfl
  rw [framed]
  refine (chooseSlot_serviceKept running).trans (updLine_serviceKept ?_)
  exact stays_of_state rfl rfl

theorem startFrames_serviceKept {ns : List LineNo} {s : State} (running : ∀ n ∈ ns, (s.line n).running = true) :
    ServiceKept s (startFrames ns s) := by
  induction ns generalizing s with
  | nil => exact .refl s
  | cons n ns ih =>
    have still : ∀ m, ((startRunningFrame n s).line m).running = (s.line m).running := fun m => by
      by_cases here : m = n
      · rw [here, startRunningFrame_line]; rfl
      · rw [(startRunningFrame_lineOnly n s).others m here]
    exact (startRunningFrame_serviceKept (running n (List.mem_cons_self ..))).trans
      (ih fun m mem => (still m).trans (running m (List.mem_cons_of_mem n mem)))

/-! ## The triggers (R77 to R81) -/

/-- A cycle start makes contexts ACTIVE at its frames only, which are those of lines that run (R79, R139). -/
theorem startCycle_serviceKept (source : TriggerSource) (s : State) : ServiceKept s (startCycle source s) := by
  have formed : ServiceKept s (initialiseBack source (cycleFormed s)) :=
    serviceKept_of_lines (fun _ => rfl) fun n => by rw [initialiseBack_line]; exact stays_of_state rfl rfl
  have frames : ServiceKept (initialiseBack source (cycleFormed s)) (cycleFrames source s) :=
    startFrames_serviceKept fun n mem => by
      have takesPart := (mem_participants s n).mp mem
      simp only [Line.participates, Bool.and_eq_true] at takesPart
      rw [initialiseBack_line]
      exact takesPart.1.1
  have closed := startCycle_closed source s
  refine (formed.trans frames).trans (serviceKept_of_lines (fun c => ?_) fun n => ?_)
  · rw [closed.ctx, cycleActive_ctx]
  · rw [closed.line, cycleActive_line]
    split
    · exact stays_of_state rfl rfl
    · exact .refl _

theorem takeTrigger_serviceKept (source : TriggerSource) (s : State) : ServiceKept s (takeTrigger source s) := by
  unfold takeTrigger
  split
  · exact .refl s
  · exact startCycle_serviceKept source s
  · exact serviceKept_of_same (fun _ => rfl) fun _ => rfl

theorem syncEdge_serviceKept (s : State) : ServiceKept s (syncEdge s) := by
  unfold syncEdge
  split
  · exact takeTrigger_serviceKept .sync s
  · exact .refl s

theorem timerExpiry_serviceKept (s : State) : ServiceKept s (timerExpiry s) := by
  unfold timerExpiry
  split
  · refine ServiceKept.trans ?_ (takeTrigger_serviceKept .timer _)
    exact serviceKept_of_same (fun _ => rfl) fun _ => rfl
  · exact .refl s

/-! ## The work of a line -/

section Work

variable {s : State} {n : LineNo}

/-- A health counting leaves its line in RUN or DEGRADED, or is its departure (R40, R41). -/
theorem healthCounted_serviceKept {health : LineState × Nat × Nat}
    (fits : health.1 = .run ∨ health.1 = .degraded ∨ health.1 = .lost) : ServiceKept s (healthCounted n health s) := by
  have counted : ServiceKept s (s.setLine n ((s.line n).withCounts health.2)) :=
    setLine_serviceKept (stays_of_state rfl rfl)
  simp only [healthCounted]
  split
  · exact counted
  · split
    · exact counted.trans (departService_serviceKept n .lost .failures _)
    · next served =>
      refine ServiceKept.trans (setLine_serviceKept ?_) (post_serviceKept _ _)
      refine stays_of_running rfl ?_
      exact (running_iff _).mpr (fits.imp_right fun h => h.resolve_right served)

theorem countSample_serviceKept (status : SampleStatus) (running : (s.line n).running = true) :
    ServiceKept s (countSample n status s) := by
  rw [countSample_eq status running]
  exact healthCounted_serviceKept (expectedHealth_cases _ running)

theorem deferredDisable_serviceKept (n : LineNo) (s : State) : ServiceKept s (deferredDisable n s) := by
  unfold deferredDisable
  split
  · exact (updLine_serviceKept (stays_of_state rfl rfl)).trans (departService_serviceKept n .off .disabled _)
  · exact .refl s

theorem writeRecord_serviceKept (n : LineNo) (status : SampleStatus) (ew : Option ErrWrn) (latency : Option Nat)
    (s : State) : ServiceKept s (writeRecord n status ew latency s) := by
  have appended : ServiceKept s
      (s.updLine n fun l => { l with ring := l.ring.append (entryOf s n status ew latency) }) :=
    updLine_serviceKept (stays_of_state rfl rfl)
  exact appended.trans (serviceKept_of_same (fun _ => rfl) fun _ => rfl)

/-- The end of a running frame, step by step (R36). -/
theorem runningEnd_serviceKept (running : (s.line n).running = true) (result : FrameResult) :
    ServiceKept s (runningEnd n result s) := by
  have position : ServiceKept s (positionWork n result (s.updLine n (·.endFrame result))).1 :=
    (updLine_serviceKept (stays_of_state rfl rfl)).trans
      (serviceKept_of_lineOnly (positionWork_lineOnly n result _)
        (fun c => by simp only [State.ctx, positionWork_service])
        (by rw [positionWork_line]; exact stays_of_state rfl rfl))
  have work : ServiceKept s (frameWork n result s) := position.trans (serviceFrameEnd_serviceKept n result _)
  have counted := work.trans
    (countSample_serviceKept (expectedStatus s n result) (frameWork_running result running))
  have written : ServiceKept s (frameRecord n result s) :=
    counted.trans (writeRecord_serviceKept n _ _ _ _)
  have told := recordWritten_told n (frameRecord n result s)
  rw [runningEnd_eq]
  exact (written.trans (serviceKept_of_same told.ctx told.line)).trans (deferredDisable_serviceKept n _)

/-- A line in PROBING has no ACTIVE context, so that it may enter RUN. -/
theorem not_running_of_probing {l : Line} (probing : l.state = .probing) : ¬l.running = true := by
  simp [Line.running, probing]

theorem probeTimeout_serviceKept (n : LineNo) (s : State) : ServiceKept s (probeTimeout n s) := by
  unfold probeTimeout
  split
  · exact departService_serviceKept n .lost .probeTimeout s
  · exact .refl s

theorem probeEnd_serviceKept (probing : (s.line n).state = .probing) (result : FrameResult) :
    ServiceKept s (probeEnd n result s) := by
  rw [probeEnd_eq]
  refine ServiceKept.trans ?_ (deferredDisable_serviceKept n _)
  obtain short | good := Nat.lt_or_ge ((s.line n).runAfter result) (s.line n).profile.probeGood.toNat
  · rw [probeJudged_of_short short]
    refine ServiceKept.trans (setLine_serviceKept ?_) (probeTimeout_serviceKept n _)
    exact stays_of_state rfl rfl
  · rw [probeJudged_of_run good]
    refine ServiceKept.trans (setLine_serviceKept ?_) (post_serviceKept (.lineState n .run .probed) _)
    exact stays_of_served rfl (not_running_of_probing probing) rfl

theorem recoveryExpiry_serviceKept (n : LineNo) (s : State) : ServiceKept s (recoveryExpiry n s) := by
  by_cases running : (s.line n).running = true
  · rw [recoveryExpiry_of_running running]
    have begun : ServiceKept s (s.setLine n (s.line n).newWait) := setLine_serviceKept (stays_of_state rfl rfl)
    have posted : ServiceKept s (notReadyPosted n s) := begun.trans (post_serviceKept _ _)
    exact posted.trans (healthCounted_serviceKept (expectedHealth_cases _ running))
  · by_cases probing : (s.line n).state = .probing
    · rw [recoveryExpiry_of_probing probing]
      refine ServiceKept.trans (setLine_serviceKept ?_) (probeTimeout_serviceKept n _)
      exact stays_of_state rfl rfl
    · rw [recoveryExpiry_of_other running probing]
      exact updLine_serviceKept (stays_of_state rfl rfl)

/-- An entry to PROBING from OFF or LOST (R29). -/
theorem enterProbing_serviceKept (away : (s.line n).running = false) (da : Bool) (why : LineReason) :
    ServiceKept s (enterProbing n da why s) := by
  rw [enterProbing_eq]
  refine ServiceKept.trans (setLine_serviceKept ?_) (post_serviceKept (.lineState n .probing why) _)
  exact stays_of_served rfl (by simp [away]) rfl

theorem becomeReady_serviceKept (n : LineNo) (s : State) : ServiceKept s (s.updLine n (·.becomeReady)) := by
  refine updLine_serviceKept (stays_of_state ?_ ?_)
  · simp only [Line.becomeReady]; split <;> rfl
  · simp only [Line.becomeReady]; split <;> rfl

theorem writeProfile_serviceKept (n : LineNo) (k : Fin 5) (value : Word) (s : State) :
    ServiceKept s (s.updLine n (·.writeProfile k value)) := by
  refine updLine_serviceKept (stays_of_state ?_ ?_)
  · unfold Line.writeProfile; split <;> rfl
  · unfold Line.writeProfile; split <;> rfl

theorem timestampTick_serviceKept (s : State) : ServiceKept s (timestampTick s) :=
  serviceKept_of_lines (fun _ => rfl) fun m => by rw [timestampTick_line]; exact stays_of_state rfl rfl

end Work

end Sys2Proof.Machine
end

section
/-! PROOFS. The commands of the service engine (R118, R119, R123, R126 to R133): what an opening, a
cancel and a release make of the laws of the service engine. -/

namespace Sys2Proof.Machine

/-! ## An opening (R126, R127) -/

/-- SVC_OPEN refuses or allocates the lowest-numbered FREE context for a line in service. -/
theorem svcOpen_cases (n : LineNo) (s : State) :
    (svcOpen n s).state = s ∨
      ∃ c op code, s.freeCtx = some c ∧ (s.line n).state.inService = true ∧
        (svcOpen n s).state = allocate c n op code s := by
  unfold svcOpen openOn
  split
  · exact .inl rfl
  · next op code _ =>
    split
    · next served =>
      split
      · exact .inl rfl
      · next c found => exact .inr ⟨c, op, code, found, served, rfl⟩
    · exact .inl rfl

/-- The body that an allocation gives its context. -/
abbrev openedBody (n : LineNo) (op : SvcOp) (code : Byte) (s : State) : ContextBody :=
  .queued { line := n, op := op, code := code, attemptLimit := s.service.attemptLimit,
            replyWindow := s.service.replyWindow }

theorem allocate_ctx (c d : CtxNo) (n : LineNo) (op : SvcOp) (code : Byte) (s : State) :
    (allocate c n op code s).ctx d =
      if d = c then { generation := (s.ctx c).generation + 1, body := openedBody n op code s } else s.ctx d := by
  simp only [allocate, updLine_ctx, setCtx_ctx]

theorem allocate_line (c : CtxNo) (n m : LineNo) (op : SvcOp) (code : Byte) (s : State) :
    (allocate c n op code s).line m =
      if m = n then { s.line m with queue := (s.line m).queue ++ [c] } else s.line m := by
  simp only [allocate, updLine_line, setCtx_line]

/-- An allocation keeps the queue law and the law of R124: a FREE context stands in no queue, so that it stands once at
the tail of its line's queue. -/
theorem allocate_fits {s : State} {c : CtxNo} {n : LineNo} (op : SvcOp) (code : Byte) (free : (s.ctx c).body = .free)
    (served : (s.line n).state.inService = true) (fits : ∀ m, ServiceFits s m) (m : LineNo) :
    ServiceFits (allocate c n op code s) m := by
  have active : ∀ d, ((allocate c n op code s).ctx d).body.activeOn = (s.ctx d).body.activeOn := fun d => by
    rw [allocate_ctx]
    split
    · next here => rw [here, free]; rfl
    · rfl
  have queued : ∀ d, ((allocate c n op code s).ctx d).body.queuedOn =
      if d = c then some n else (s.ctx d).body.queuedOn := fun d => by
    rw [allocate_ctx]
    split <;> rfl
  have out : c ∉ (s.line m).queue := fun stands => by
    simpa [free, ContextBody.queuedOn] using ((fits m).queue.queued c).mp stands
  have line := allocate_line c n m op code s
  obtain ⟨⟨once, stands, unique⟩, running, inService⟩ := fits m
  by_cases here : m = n
  · subst here
    rw [if_pos rfl] at line
    refine ⟨⟨?_, fun d => ?_, fun d d' => ?_⟩, fun d h => ?_, fun d _ => ?_⟩
    · rw [line]; exact once.append (List.nodup_singleton c) (by simpa using out)
    · rw [line, queued, List.mem_append, stands, List.mem_singleton]
      by_cases same : d = c <;> simp [same, free, ContextBody.queuedOn]
    · rw [active, active]; exact unique d d'
    · rw [active] at h; rw [line]; exact running d h
    · rw [line]; exact served
  · rw [if_neg here] at line
    refine (fits m).stays (by rw [line]; exact .refl _) (fun d => ?_) fun d => by rw [active]; exact id
    rw [queued]
    split
    · next same => simp [same, free, ContextBody.queuedOn, Ne.symm here]
    · rfl

/-! ## A cancel and a release (R130, R131, R133) -/

/-- A context that is cancelled holds no data (R130, R131). -/
theorem cancelled_moves {s : State} {c : CtxNo} (r : Request) (a frames : Nat) (taken : (s.ctx c).body ≠ .free)
    (d : CtxNo) : (s.ctx d).Moves ((finishCtx c r a (cancelledResult frames) s).ctx d) :=
  setBody_moves taken (fun _ => finished_lawful_of_no_data rfl rfl (by simp [cancelledResult])) d

/-- A QUEUED context that is cancelled leaves the queue of its line (R130). -/
theorem cancelQueued_serviceKept {s : State} {c : CtxNo} {r : Request} (body : (s.ctx c).body = .queued r) :
    ServiceKept s (cancelQueued c r s) := by
  have ctx : ∀ d, (cancelQueued c r s).ctx d = (s.setBody c (.finished r 0 (cancelledResult 0))).ctx d := fun _ => rfl
  have line : ∀ m, (cancelQueued c r s).line m = (s.updLine r.line fun l =>
      { l with queue := l.queue.filter (· ≠ c) }).line m := fun _ => rfl
  have active : ∀ d, ((cancelQueued c r s).ctx d).body.activeOn = (s.ctx d).body.activeOn := fun d => by
    rw [ctx, setBody_ctx]
    split
    · next here => rw [here, body]; rfl
    · rfl
  have queued : ∀ d, ((cancelQueued c r s).ctx d).body.queuedOn =
      if d = c then none else (s.ctx d).body.queuedOn := fun d => by
    rw [ctx, setBody_ctx]
    split <;> rfl
  refine ⟨cancelled_moves (s := s) r 0 0 (by simp [body]), fun fits m => ?_⟩
  obtain ⟨⟨once, stands, unique⟩, running, served⟩ := fits m
  by_cases here : m = r.line
  · subst here
    have line := line r.line
    rw [updLine_line_same] at line
    refine ⟨⟨?_, fun d => ?_, fun d d' => ?_⟩, fun d h => ?_, fun d h => ?_⟩
    · rw [line]; exact once.filter _
    · rw [line, queued, List.mem_filter, stands]
      by_cases same : d = c <;> simp [same]
    · rw [active, active]; exact unique d d'
    · rw [active] at h; rw [line]; exact running d h
    · rw [line]
      exact served c (by rw [body]; rfl)
  · refine (fits m).stays (by rw [line, updLine_line_ne _ _ here]; exact .refl _) (fun d => ?_)
      fun d => by rw [active]; exact id
    rw [queued]
    split
    · next same => simp [same, body, ContextBody.queuedOn, Ne.symm here]
    · rfl

/-- An ACTIVE context that is cancelled leaves every queue as it is (R131). -/
theorem cancelActive_serviceKept {s : State} {c : CtxNo} {r : Request} {p : Progress}
    (body : (s.ctx c).body = .active r p) : ServiceKept s (cancelActive c r p s) := by
  have owed : ServiceKept s (s.setAbort r.line true) := updLine_serviceKept (stays_of_state rfl rfl)
  have finished : ServiceKept (s.setAbort r.line true)
      ((s.setAbort r.line true).setBody c (.finished r p.attempts (cancelledResult p.framesUsed))) :=
    setBody_serviceKept (cancelled_moves (s := s.setAbort r.line true) r p.attempts p.framesUsed (by simp [body]))
      (by simp [body, ContextBody.queuedOn]) nofun
  exact (owed.trans finished).trans (post_serviceKept _ _)

theorem svcCancel_serviceKept (s : State) : ServiceKept s (svcCancel s).state := by
  simp only [svcCancel]
  split
  · split
    · next r body => exact cancelQueued_serviceKept body
    · next r p body => exact cancelActive_serviceKept body
    · exact .refl s
  · exact .refl s

/-- A release frees a finished context, which stands in no queue (R133). -/
theorem svcRelease_serviceKept (s : State) : ServiceKept s (svcRelease s).state := by
  simp only [svcRelease]
  split
  · split
    · next r a x body =>
      exact setBody_serviceKept (setBody_moves (by simp [body]) fun _ => rfl) (by rw [body]; rfl) nofun
    · exact .refl s
  · exact .refl s

end Sys2Proof.Machine
end

section
/-! PROOFS. Every step keeps the laws of the service engine (R118, R123, R124). -/

namespace Sys2Proof.Machine

/-! ## The owners of the commands -/

/-- The owners of the cycle unit but for TRIGGER, of the bank unit, of the event queue and of the fault unit leave the
service engine. -/
theorem owner_service_of_leavesLines {c : Instr} {owner : State → Answer} (owned : ownerOf c = some owner)
    (quiet : leavesLines c = true) (other : c ≠ .svcRelease) (s : State) : (owner s).state.service = s.service := by
  cases c <;> simp only [leavesLines, Bool.false_eq_true] at quiet
  all_goals
    obtain rfl := Option.some.inj owned
  case cycleStart =>
    unfold cycleStart
    repeat' split
    all_goals rfl
  case cycleStop => unfold cycleStop; split <;> rfl
  case bankHold => rfl
  case bankRelease => simp only [bankRelease]; split <;> rfl
  case svcRelease => exact absurd rfl other
  case eventPop => unfold eventPop; split <;> rfl
  case eventFlush => rfl
  case faultClear => rfl

/-- The owner of a command keeps the laws, whatever it answers, and opens no context. -/
def KeepsService (owner : State → Answer) : Prop := ∀ s, ServiceKept s (owner s).state

theorem keepsService_of_leavesLines {c : Instr} {owner : State → Answer} (owned : ownerOf c = some owner)
    (quiet : leavesLines c = true) (other : c ≠ .svcRelease) : KeepsService owner := fun s =>
  serviceKept_of_same (fun d => by simp only [State.ctx, owner_service_of_leavesLines owned quiet other])
    (owner_line_of_leavesLines owned quiet s)

/-- What holds of a state that no command changes, and of what the owner makes of it for every line, holds behind a
command that names a line. -/
theorem withLine_state {P : State → Prop} {owner : LineNo → State → Answer} {s : State} (same : P s)
    (owned : ∀ n, P (owner n s).state) : P (withLine owner s).state := by
  unfold withLine
  split
  · exact same
  · exact owned _

theorem withLine_keepsService {owner : LineNo → State → Answer} (keeps : ∀ n, KeepsService (owner n)) :
    KeepsService (withLine owner) := fun s => withLine_state (.refl s) fun n => keeps n s

theorem lineEnable_keepsService (da : Bool) (n : LineNo) : KeepsService (lineEnable da n) := by
  intro s
  unfold lineEnable
  split
  · exact .refl s
  · next off =>
    split
    · exact .refl s
    · exact enterProbing_serviceKept (by simp [Line.running, not_not.mp off]) da .enabled

theorem lineRestart_keepsService (da : Bool) (n : LineNo) : KeepsService (lineRestart da n) := by
  intro s
  unfold lineRestart
  split
  · exact .refl s
  · next lost => exact enterProbing_serviceKept (by simp [Line.running, not_not.mp lost]) da .restarted

theorem lineDisable_keepsService (n : LineNo) : KeepsService (lineDisable n) := by
  intro s
  unfold lineDisable
  split
  · exact .refl s
  · split
    · rw [accept_state]; exact updLine_serviceKept (stays_of_state rfl rfl)
    · exact departService_serviceKept n .off .disabled s

theorem triggerCommand_keepsService : KeepsService triggerCommand := by
  intro s
  unfold triggerCommand
  split
  · exact .refl s
  · exact takeTrigger_serviceKept .host s

theorem updPos_serviceKept (n : LineNo) (f : PositionUnit → PositionUnit) (s : State) :
    ServiceKept s (s.updPos n f) :=
  updLine_serviceKept (stays_of_state rfl rfl)

theorem setPreset_keepsService (n : LineNo) : KeepsService (setPreset n) := by
  intro s
  unfold setPreset
  split
  · rw [accept_state]; exact updPos_serviceKept n _ s
  · exact .refl s

theorem cancelPreset_keepsService (n : LineNo) : KeepsService (cancelPreset n) := by
  intro s
  unfold cancelPreset
  split
  · rw [accept_state]; exact updPos_serviceKept n _ s
  · exact .refl s

theorem ackContinuity_keepsService (n : LineNo) : KeepsService (ackContinuity n) := by
  intro s
  unfold ackContinuity
  split
  · rw [accept_state]; exact updPos_serviceKept n _ s
  · exact .refl s

/-- Every owner but those of SVC_OPEN and SOFT_RESET keeps the laws and opens no context. -/
theorem ownerOf_keepsService {c : Instr} {owner : State → Answer} (owned : ownerOf c = some owner)
    (other : c ≠ .svcOpen) (between : isReset c = false) : KeepsService owner := by
  cases quiet : leavesLines c with
  | true =>
    by_cases releases : c = .svcRelease
    · subst releases
      cases owned
      exact svcRelease_serviceKept
    · exact keepsService_of_leavesLines owned quiet releases
  | false =>
    cases c <;> simp only [leavesLines, Bool.true_eq_false] at quiet <;>
      simp only [ownerOf, Option.some.injEq, reduceCtorEq] at owned
    all_goals subst owned
    case lineEnable da => exact withLine_keepsService (lineEnable_keepsService da)
    case lineDisable => exact withLine_keepsService lineDisable_keepsService
    case lineRestart da => exact withLine_keepsService (lineRestart_keepsService da)
    case trigger => exact triggerCommand_keepsService
    case setPreset => exact withLine_keepsService setPreset_keepsService
    case cancelPreset => exact withLine_keepsService cancelPreset_keepsService
    case ackContinuity => exact withLine_keepsService ackContinuity_keepsService
    case svcOpen => exact absurd rfl other
    case svcCancel => exact svcCancel_serviceKept
    case softReset => cases between

/-- A command taken is its owner's work between two writes of the command port (R180). -/
theorem takeCommand_serviceKept {owner : State → Answer} (keeps : KeepsService owner) (code : Word) (s : State) :
    ServiceKept s (takeCommand code owner s) := by
  have taken : ServiceKept s (s.taken code) := serviceKept_of_same (fun _ => rfl) fun _ => rfl
  have answered : ServiceKept (owner (s.taken code)).state (takeCommand code owner s) :=
    serviceKept_of_same (fun _ => rfl) fun _ => rfl
  exact (taken.trans (keeps _)).trans answered

/-- A write to the service configuration leaves the contexts, whose copies it does not reach (R121, R122). -/
theorem serviceConfiguration_serviceKept (value : Word) (s : State) :
    ServiceKept s { s with service := s.service.writeConfig value } := by
  have contexts : (s.service.writeConfig value).contexts = s.service.contexts := by
    simp only [ServiceEngine.writeConfig]
    split <;> rfl
  exact serviceKept_of_same (fun _ => by simp only [State.ctx, contexts]) fun _ => rfl

/-! ## The laws through an opening and a reset -/

/-- The laws of the service engine, kept from one state to another. -/
structure LawsKept (s t : State) : Prop where
  data : DataLaw s → DataLaw t
  fits : (∀ n, ServiceFits s n) → ∀ n, ServiceFits t n

theorem ServiceKept.laws {s t : State} (kept : ServiceKept s t) : LawsKept s t :=
  ⟨fun law c => (kept.moves c).lawful (law c), kept.fits⟩

theorem LawsKept.trans {s t u : State} (h : LawsKept s t) (k : LawsKept t u) : LawsKept s u :=
  ⟨k.data ∘ h.data, k.fits ∘ h.fits⟩

/-- An opening keeps the laws: a QUEUED context holds no data. -/
theorem svcOpen_lawsKept (n : LineNo) (s : State) : LawsKept s (svcOpen n s).state := by
  obtain same | ⟨c, op, code, found, served, opened⟩ := svcOpen_cases n s
  · rw [same]; exact (ServiceKept.refl s).laws
  · rw [opened]
    refine ⟨fun law d => ?_, allocate_fits op code (freeCtx_some found) served⟩
    rw [allocate_ctx]
    split
    · rfl
    · exact law d

@[simp] theorem resetBlocks_ctx (s : State) (c : CtxNo) :
    (resetBlocks s).ctx c = { generation := 0, body := .free } := by
  simp [State.ctx, resetBlocks, State.reset, ServiceEngine.reset]

/-- After a reset every context is FREE and every queue empty (R137). -/
theorem resetBlocks_lawsKept (s : State) : LawsKept s (resetBlocks s) := by
  refine ⟨fun _ c => by rw [resetBlocks_ctx]; rfl, fun _ n =>
    ⟨⟨?_, fun c => ?_, fun c c' h => ?_⟩, fun c h => ?_, fun c h => ?_⟩⟩
  · simp [resetBlocks_line, Line.reset]
  · simp [resetBlocks_line, Line.reset, ContextBody.queuedOn]
  · simp [ContextBody.activeOn] at h
  · simp [ContextBody.activeOn] at h
  · simp [ContextBody.queuedOn] at h

/-- A state with the contexts and the lines of another. -/
theorem lawsKept_of_same {s t : State} (ctx : ∀ c, t.ctx c = s.ctx c) (line : ∀ n, t.line n = s.line n) :
    LawsKept s t :=
  (serviceKept_of_same ctx line).laws

/-- Every owner of a command keeps the laws. -/
theorem ownerOf_lawsKept {c : Instr} {owner : State → Answer} (owned : ownerOf c = some owner) (s : State) :
    LawsKept s (owner s).state := by
  by_cases opens : c = .svcOpen
  · subst opens
    cases owned
    exact withLine_state (ServiceKept.refl s).laws fun n => svcOpen_lawsKept n s
  · by_cases resets : c = .softReset
    · subst resets
      cases owned
      exact (resetBlocks_lawsKept s).trans (lawsKept_of_same (fun _ => rfl) fun _ => rfl)
    · have between : isReset c = false := by
        cases resetting : isReset c with
        | false => rfl
        | true =>
          cases c <;> simp only [isReset, Bool.false_eq_true] at resetting
          case softReset => exact absurd rfl resets
          case hardwareReset => cases owned
          case resetRelease => cases owned
      exact (ownerOf_keepsService owned opens between s).laws

theorem takeCommand_lawsKept {owner : State → Answer} (keeps : ∀ s, LawsKept s (owner s).state) (code : Word)
    (s : State) : LawsKept s (takeCommand code owner s) := by
  have taken : LawsKept s (s.taken code) := lawsKept_of_same (fun _ => rfl) fun _ => rfl
  have answered : LawsKept (owner (s.taken code)).state (takeCommand code owner s) :=
    lawsKept_of_same (fun _ => rfl) fun _ => rfl
  exact (taken.trans (keeps _)).trans answered

/-- Every effect of a step keeps the laws of the service engine. -/
theorem stepEffect_lawsKept {s t : State} (effect : StepEffect s t) : LawsKept s t := by
  cases effect with
  | none => exact (ServiceKept.refl s).laws
  | command owned code => exact takeCommand_lawsKept (ownerOf_lawsKept owned) code s
  | badCommand value => exact lawsKept_of_same (fun _ => rfl) fun _ => rfl
  | argument i value => exact lawsKept_of_same (fun _ => rfl) fun _ => rfl
  | cycleConfiguration value => exact lawsKept_of_same (fun _ => rfl) fun _ => rfl
  | serviceConfiguration value => exact (serviceConfiguration_serviceKept value s).laws
  | classMask value => exact lawsKept_of_same (fun _ => rfl) fun _ => rfl
  | profile n k value => exact (writeProfile_serviceKept n k value s).laws
  | syncEdge => exact (syncEdge_serviceKept s).laws
  | timerExpiry => exact (timerExpiry_serviceKept s).laws
  | tick => exact (timestampTick_serviceKept s).laws
  | probeEnd samples probing inFlight => exact (probeEnd_serviceKept probing _).laws
  | runningEnd samples running inFlight => exact (runningEnd_serviceKept running _).laws
  | becomeReady observes => exact (becomeReady_serviceKept _ s).laws
  | recoveryExpiry reached => exact (recoveryExpiry_serviceKept _ s).laws
  | resetLow => exact (resetBlocks_lawsKept s).trans (lawsKept_of_same (fun _ => rfl) fun _ => rfl)
  | resetHigh => exact resetBlocks_lawsKept s

/-- Settles O60: a step is one of the effects on the state with its front command taken, and each keeps the laws. -/
theorem stepKeepsTheServiceLaws : Obligations.StepKeepsTheServiceLaws := by
  intro s t run
  obtain ⟨pending, effect⟩ := step_effect run
  have front : LawsKept s { s with pending := pending } := lawsKept_of_same (fun _ => rfl) fun _ => rfl
  obtain ⟨data, fits⟩ := front.trans (stepEffect_lawsKept effect)
  exact ⟨data, fun queue active => (serviceFits_iff t).mp (fits ((serviceFits_iff s).mpr ⟨queue, active⟩))⟩

end Sys2Proof.Machine
end

section
/-! PROOFS. The generations (R119): only SVC_OPEN advances one, and a reset makes every one 0. -/

namespace Sys2Proof.Machine

/-! ## The events and the other host writes -/

/-- The command is a write to CMD or to a word of the window by its address (R174, R180). -/
def isPortWrite : Instr → Bool
  | .badCommand _ => true
  | .registerWrite _ _ => true
  | _ => false

/-- A step of the part does its work, or nothing while RESET is low. -/
theorem whileRunning_elim {P : State → Prop} {f : State → State} {s t : State} (same : P s) (work : P (f s))
    (run : whileRunning f s = .next t) : P t := by
  rw [whileRunning_next] at run
  rw [← next_inj run]
  split
  · exact same
  · exact work

theorem whileRunning_serviceKept {f : State → State} {s t : State} (kept : ServiceKept s (f s))
    (run : whileRunning f s = .next t) : ServiceKept s t :=
  whileRunning_elim (.refl s) kept run

/-- The events of the part and the host writes to one configuration word keep the laws and open no context. -/
theorem exec_serviceKept_of_event {c : Instr} {s t : State} (unowned : ownerOf c = none)
    (direct : isPortWrite c = false) (between : isReset c = false) (run : exec c s = .next t) : ServiceKept s t := by
  cases c <;> simp only [ownerOf, reduceCtorEq] at unowned
  case badCommand value => cases direct
  case registerWrite address value => cases direct
  case hardwareReset => cases between
  case resetRelease => cases between
  case profileWrite n k value =>
    exact whileRunning_serviceKept (f := fun s => s.updLine n (·.writeProfile k value))
      (writeProfile_serviceKept n k value s) run
  case cycleConfigurationWrite value =>
    exact whileRunning_serviceKept (f := fun s => { s with cycle := s.cycle.writeConfig value })
      (serviceKept_of_same (fun _ => rfl) fun _ => rfl) run
  case serviceConfigurationWrite value =>
    exact whileRunning_serviceKept (f := fun s => { s with service := s.service.writeConfig value })
      (serviceConfiguration_serviceKept value s) run
  case classMaskWrite value =>
    exact whileRunning_serviceKept (f := fun s => { s with events := { s.events with mask := maskOf value } })
      (serviceKept_of_same (fun _ => rfl) fun _ => rfl) run
  case syncEdge => exact whileRunning_serviceKept (syncEdge_serviceKept s) run
  case timerExpiry => exact whileRunning_serviceKept (timerExpiry_serviceKept s) run
  case timestampCounterTick => exact whileRunning_serviceKept (timestampTick_serviceKept s) run
  case probeFrameEnd n samples =>
    simp only [exec, execProbeFrameEnd] at run
    refine whileRunning_serviceKept ?_ run
    split
    · next probing _ => exact probeEnd_serviceKept probing _
    · exact .refl s
  case runningFrameEnd n samples =>
    simp only [exec, execRunningFrameEnd] at run
    refine whileRunning_serviceKept ?_ run
    split
    · next state _ => exact runningEnd_serviceKept ((running_iff _).mpr (.inl state)) _
    · next state _ => exact runningEnd_serviceKept ((running_iff _).mpr (.inr state)) _
    · exact .refl s
  case endOfRecovery n =>
    refine whileRunning_serviceKept ?_ run
    split
    · exact becomeReady_serviceKept n s
    · exact .refl s
  case recoveryLimitExpiry n =>
    refine whileRunning_serviceKept ?_ run
    split
    · exact recoveryExpiry_serviceKept n s
    · exact .refl s

/-- Every command but SVC_OPEN and the resets leaves every generation and opens no context. -/
theorem exec_serviceKept {c : Instr} {s t : State} (formed : wellFormed c = true) (other : c ≠ .svcOpen)
    (between : isReset c = false) (run : exec c s = .next t) : ServiceKept s t := by
  cases owned : ownerOf c with
  | some owner =>
    obtain ⟨code, isCommand⟩ := exec_of_owner owned
    rw [isCommand] at run
    exact whileRunning_serviceKept (takeCommand_serviceKept (ownerOf_keepsService owned other between) code s) run
  | none =>
    cases direct : isPortWrite c with
    | false => exact exec_serviceKept_of_event owned direct between run
    | true =>
      cases c <;> simp only [isPortWrite, Bool.false_eq_true] at direct
      case badCommand value =>
        have unassigned : assignedCommand value = false := by simpa [wellFormed] using formed
        refine whileRunning_serviceKept (f := writeCmd value) ?_ run
        rw [writeCmd_of_not_assigned unassigned]
        exact takeCommand_serviceKept (owner := refuse .badCommand) (fun s => .refl s) value s
      case registerWrite address value =>
        have plain : hasOwnWrite address = false := by simpa [wellFormed] using formed
        refine whileRunning_serviceKept (f := hostWrite address value) ?_ run
        obtain ⟨i, argument⟩ | nothing := hostWrite_of_not_own plain value s
        · rw [argument]; exact serviceKept_of_same (fun _ => rfl) fun _ => rfl
        · rw [nothing]; exact .refl s

/-! ## SVC_OPEN (R119, R127) -/

/-- An opening leaves a context as it was, or takes it out of FREE with its generation advanced. -/
def Context.Opens (x y : Context) : Prop :=
  y = x ∨ x.body = .free ∧ y.body ≠ .free ∧ y.generation = x.generation + 1

theorem svcOpen_opens (n : LineNo) (s : State) (c : CtxNo) : (s.ctx c).Opens ((svcOpen n s).state.ctx c) := by
  obtain same | ⟨d, op, code, found, -, opened⟩ := svcOpen_cases n s
  · rw [same]; exact .inl rfl
  · rw [opened, allocate_ctx]
    split
    · next here => rw [here]; exact .inr ⟨freeCtx_some found, nofun, rfl⟩
    · exact .inl rfl

theorem exec_svcOpen_opens {s t : State} (run : exec .svcOpen s = .next t) (c : CtxNo) :
    (s.ctx c).Opens (t.ctx c) :=
  whileRunning_elim (f := takeCommand 0x20 (withLine svcOpen)) (P := fun u => (s.ctx c).Opens (u.ctx c)) (.inl rfl)
    (withLine_state (P := fun u => (s.ctx c).Opens (u.ctx c)) (s := s.taken 0x20) (.inl rfl)
      fun n => svcOpen_opens n (s.taken 0x20) c) run

/-- Settles O44: SVC_OPEN opens, the resets clear, and every other command keeps the generations. -/
theorem generationAdvancesOnlyAtAllocation : Obligations.GenerationAdvancesOnlyAtAllocation := by
  intro x s t c formed run
  refine ⟨fun between => ?_, fun soft high => ?_, fun hard => ?_, fun release low => ?_⟩
  · by_cases opening : x = .svcOpen
    · subst opening
      obtain same | ⟨free, taken, advanced⟩ := exec_svcOpen_opens run c
      · rw [same]; exact ⟨fun free taken => absurd free taken, fun _ => rfl⟩
      · exact ⟨fun _ _ => ⟨rfl, advanced⟩, fun kept => absurd ⟨free, taken⟩ kept⟩
    · have moves := (exec_serviceKept formed opening between run).moves c
      exact ⟨fun free taken => absurd (moves.free free) taken, fun _ => moves.generation⟩
  · subst soft
    have done : exec .softReset s = .next (takeCommand 0x3F softReset s) := whileRunning_of_high high _
    rw [← next_inj (done.symm.trans run)]
    exact congrArg Context.generation (resetBlocks_ctx (s.taken 0x3F) c)
  · subst hard
    rw [← next_inj run]
    exact congrArg Context.generation (resetBlocks_ctx s c)
  · subst release
    rw [← next_inj run, if_pos low, resetBlocks_ctx]

end Sys2Proof.Machine
end

section
/-! PROOFS. The service commands (R120, R126, R127, R130, R131, R133): what their owners answer, by the arguments, the
ticket and the context that it names. -/

namespace Sys2Proof.Machine

/-! ## Running a service command (R180) -/

theorem exec_svcOpen_of_high {s : State} (high : s.resetLow = false) :
    exec .svcOpen s = .next (takeCommand 0x20 (withLine svcOpen) s) :=
  whileRunning_of_high high _

theorem exec_svcCancel_of_high {s : State} (high : s.resetLow = false) :
    exec .svcCancel s = .next (takeCommand 0x21 svcCancel s) :=
  whileRunning_of_high high _

theorem exec_svcRelease_of_high {s : State} (high : s.resetLow = false) :
    exec .svcRelease s = .next (takeCommand 0x22 svcRelease s) :=
  whileRunning_of_high high _

/-! ## The arguments of SVC_OPEN (R126) -/

theorem svcOpOf_read (third : Word) :
    svcOpOf 1 third = if 1 ≤ third.toNat ∧ third.toNat ≤ 16 then some (.read third.toNat) else none := rfl

theorem svcOpOf_write (third : Word) :
    svcOpOf 2 third = if third.toNat ≤ 255 then some (.write (third.extractLsb' 0 8)) else none := rfl

theorem svcOpOf_command (third : Word) : svcOpOf 3 third = some .command := rfl

/-- A word other than 1, 2 and 3 is no op code. -/
theorem svcOpOf_of_other {op : Word} (third : Word) (one : op ≠ 1) (two : op ≠ 2) (three : op ≠ 3) :
    svcOpOf op third = none := by
  have code : ∀ k : Word, op ≠ k → op.toNat ≠ k.toNat := fun k ne same => ne (BitVec.eq_of_toNat_eq same)
  unfold svcOpOf
  split
  · next same => exact absurd same (code 1 one)
  · next same => exact absurd same (code 2 two)
  · next same => exact absurd same (code 3 three)
  · rfl

/-- Arguments that pass check 2 give their request (R126). -/
theorem argRequest_of_fits {s : State} {op : SvcOp} (fits : RequestFits s op) :
    s.argRequest = some (op, (s.arg 2).extractLsb' 0 8) := by
  obtain ⟨code, args⟩ := fits
  have parsed : svcOpOf (s.arg 1) (s.arg 3) = some op := by
    obtain ⟨read, low, high, rfl⟩ | ⟨write, high, rfl⟩ | ⟨command, rfl⟩ := args
    · rw [read, svcOpOf_read, if_pos ⟨low, high⟩]
    · rw [write, svcOpOf_write, if_pos high]
    · rw [command, svcOpOf_command]
  rw [State.argRequest, if_pos code, parsed]
  rfl

/-- Arguments that fail check 2 give none (R126). -/
theorem argRequest_of_misfit {s : State}
    (misfit : 255 < (s.arg 2).toNat ∨ (s.arg 1 ≠ 1 ∧ s.arg 1 ≠ 2 ∧ s.arg 1 ≠ 3) ∨
      (s.arg 1 = 1 ∧ ((s.arg 3).toNat = 0 ∨ 16 < (s.arg 3).toNat)) ∨ (s.arg 1 = 2 ∧ 255 < (s.arg 3).toNat)) :
    s.argRequest = none := by
  have no_op (h : svcOpOf (s.arg 1) (s.arg 3) = none) : s.argRequest = none := by
    rw [State.argRequest, h, Option.map_none, ite_self]
  obtain wide | ⟨one, two, three⟩ | ⟨read, count⟩ | ⟨write, data⟩ := misfit
  · exact if_neg (by omega)
  · exact no_op (svcOpOf_of_other _ one two three)
  · exact no_op (by rw [read, svcOpOf_read, if_neg (by omega)])
  · exact no_op (by rw [write, svcOpOf_write, if_neg (by omega)])

/-! ## What SVC_OPEN answers (R126, R127) -/

theorem svcOpen_of_misfit {s : State} {n : LineNo} (h : s.argRequest = none) : svcOpen n s = refuse .badArgument s := by
  simp [svcOpen, h]

section Open

variable {s : State} {n : LineNo} {op : SvcOp} (fits : RequestFits s op)

include fits

theorem svcOpen_of_away (away : (s.line n).state.inService = false) : svcOpen n s = refuse .wrongState s := by
  simp [svcOpen, openOn, argRequest_of_fits fits, away]

theorem svcOpen_of_none_free (served : (s.line n).state.inService = true) (taken : s.freeCtx = none) :
    svcOpen n s = refuse .noContext s := by
  simp [svcOpen, openOn, argRequest_of_fits fits, served, taken]

theorem svcOpen_of_free {c : CtxNo} (served : (s.line n).state.inService = true) (found : s.freeCtx = some c) :
    svcOpen n s =
      ⟨.accepted, (Ticket.mk c ((s.ctx c).generation + 1)).word,
        allocate c n op ((s.arg 2).extractLsb' 0 8) s⟩ := by
  simp [svcOpen, openOn, argRequest_of_fits fits, served, found, allocate_ctx]

end Open

/-- The contexts below one stand before it in the order of the search. -/
theorem allCtxs_split (c : CtxNo) :
    allCtxs = allCtxs.take c ++ c :: allCtxs.drop (c + 1) ∧ ∀ d ∈ allCtxs.take c, d < c := by
  revert c; decide

/-- The search finds the lowest-numbered FREE context (R127). -/
theorem freeCtx_of_lowest {s : State} {c : CtxNo} (free : (s.ctx c).body = .free)
    (lowest : ∀ d, d < c → (s.ctx d).body ≠ .free) : s.freeCtx = some c := by
  obtain ⟨order, below⟩ := allCtxs_split c
  refine List.find?_eq_some_iff_append.mpr ⟨by simpa using free, _, _, order, fun d before => ?_⟩
  simpa using lowest d (below d before)

theorem freeCtx_of_none_free {s : State} (taken : ∀ c, (s.ctx c).body ≠ .free) : s.freeCtx = none :=
  List.find?_eq_none.mpr fun c _ => by simpa using taken c

/-! ## The word of a ticket (R182) -/

/-- The context in bits 1 to 0, the generation in bits 15 to 8, and 0 in all others. -/
theorem ticketWord_eq (c : CtxNo) (g : BitVec 8) :
    (Ticket.mk c g).word = BitVec.ofNat 32 (c.val + 2 ^ 8 * g.toNat) := by
  refine BitVec.eq_of_toNat_eq ?_
  have low : c.val < 2 ^ 8 := by omega
  have high := g.isLt
  have joined := Nat.two_pow_add_eq_or_of_lt low g.toNat
  simp only [Ticket.word, BitVec.toNat_or, BitVec.toNat_ofNat, BitVec.toNat_shiftLeft, BitVec.toNat_setWidth]
  rw [Nat.mod_eq_of_lt (by omega : c.val < 2 ^ 32), Nat.mod_eq_of_lt (by omega : g.toNat < 2 ^ 32),
    Nat.shiftLeft_eq, Nat.mod_eq_of_lt (by omega), Nat.mod_eq_of_lt (by omega), Nat.or_comm, Nat.mul_comm, ← joined,
    Nat.add_comm]

/-- A ticket is read back from its word. -/
theorem ticketOf_word (c : CtxNo) (g : BitVec 8) : ticketOf (Ticket.mk c g).word = ⟨c, g⟩ := by
  rw [ticketWord_eq, ticketOf]
  have high := g.isLt
  congr 1
  · refine Fin.ext ?_
    simp
    omega
  · refine BitVec.eq_of_toNat_eq ?_
    simp
    omega

/-- Settles O41: the opening of the lowest FREE context, read field by field. -/
theorem svcOpenAllocatesTheLowestFree : Obligations.SvcOpenAllocatesTheLowestFree := by
  intro s n op c high names served fits free lowest
  have opened := svcOpen_of_free (s := s.taken 0x20) fits served (freeCtx_of_lowest free lowest)
  have run : exec .svcOpen s = .next ((allocate c n op ((s.arg 2).extractLsb' 0 8) (s.taken 0x20)).answer 0x20
      .accepted (Ticket.mk c ((s.ctx c).generation + 1)).word) := by
    rw [exec_svcOpen_of_high high, takeCommand]
    simp only [withLine_of_names 0x20 svcOpen names, opened]
    rfl
  refine ⟨_, run, ?_, fun d other => ?_, ?_, fun m other => ?_, rfl, ticketOf_word c _, ticketWord_eq c _, rfl, rfl, rfl,
    rfl⟩
  · rw [answer_ctx, allocate_ctx, if_pos rfl]; rfl
  · rw [answer_ctx, allocate_ctx, if_neg other]; rfl
  · rw [answer_line, allocate_line, if_pos rfl]; rfl
  · rw [answer_line, allocate_line, if_neg other]; rfl

/-! ## What SVC_CANCEL and SVC_RELEASE answer (R120, R130, R131, R133) -/

/-- A ticket is stale when its context is FREE or has another generation (R120). -/
theorem not_isCurrent {s : State} {t : Ticket}
    (stale : (s.ctx t.context).body = .free ∨ (s.ctx t.context).generation ≠ t.generation) :
    s.isCurrent t = false := by
  obtain free | other := stale
  · simp [State.isCurrent, free]
  · simp [State.isCurrent, other]

section Ticket

variable {s : State}

theorem svcCancel_of_stale (stale : s.isCurrent (ticketOf (s.arg 0)) = false) :
    svcCancel s = refuse .staleTicket s := by
  simp [svcCancel, stale]

theorem svcRelease_of_stale (stale : s.isCurrent (ticketOf (s.arg 0)) = false) :
    svcRelease s = refuse .staleTicket s := by
  simp [svcRelease, stale]

variable {c : CtxNo} {r : Request} (names : ticketOf (s.arg 0) = ⟨c, (s.ctx c).generation⟩)

include names

theorem svcCancel_of_queued (body : (s.ctx c).body = .queued r) : svcCancel s = accept 0 (cancelQueued c r s) := by
  simp [svcCancel, names, State.isCurrent, body]

theorem svcCancel_of_active {p : Progress} (body : (s.ctx c).body = .active r p) :
    svcCancel s = accept 1 (cancelActive c r p s) := by
  simp [svcCancel, names, State.isCurrent, body]

theorem svcCancel_of_finished {a : Nat} {x : Result} (body : (s.ctx c).body = .finished r a x) :
    svcCancel s = refuse .wrongState s := by
  simp [svcCancel, names, State.isCurrent, body]

theorem svcRelease_of_queued (body : (s.ctx c).body = .queued r) : svcRelease s = refuse .wrongState s := by
  simp [svcRelease, names, State.isCurrent, body]

theorem svcRelease_of_active {p : Progress} (body : (s.ctx c).body = .active r p) :
    svcRelease s = refuse .wrongState s := by
  simp [svcRelease, names, State.isCurrent, body]

theorem svcRelease_of_finished {a : Nat} {x : Result} (body : (s.ctx c).body = .finished r a x) :
    svcRelease s = accept 0 (s.setBody c .free) := by
  simp [svcRelease, names, State.isCurrent, body]

end Ticket

/-- Settles O42: each refusal through the owner's own answer. -/
theorem serviceCommandsRefuse : Obligations.ServiceCommandsRefuse := by
  intro s high
  rw [exec_svcOpen_of_high high, exec_svcCancel_of_high high, exec_svcRelease_of_high high]
  refine ⟨fun out => ?_, fun n names => ⟨fun misfit => ?_, fun op fits => ⟨fun away => ?_, fun on kept taken => ?_⟩⟩,
    fun c named => ⟨fun stale => ?_, fun same => ?_⟩⟩
  · rw [takeCommand_refuse (withLine_of_ge 0x20 svcOpen out)]; rfl
  · rw [takeCommand_withLine_refuse names (svcOpen_of_misfit (s := s.taken 0x20) (argRequest_of_misfit misfit))]; rfl
  · have left : (s.line n).state.inService = false := (inService_eq_false_iff _).mpr away
    rw [takeCommand_withLine_refuse names (svcOpen_of_away (s := s.taken 0x20) fits left)]; rfl
  · have served : (s.line n).state.inService = true := by
      rw [← Bool.not_eq_false, inService_eq_false_iff]
      exact not_or.mpr ⟨on, kept⟩
    rw [takeCommand_withLine_refuse names
      (svcOpen_of_none_free (s := s.taken 0x20) fits served (freeCtx_of_none_free taken))]
    rfl
  · subst named
    have judged := not_isCurrent stale
    rw [takeCommand_refuse (svcCancel_of_stale (s := s.taken 0x21) judged),
      takeCommand_refuse (svcRelease_of_stale (s := s.taken 0x22) judged)]
    exact ⟨rfl, rfl⟩
  · have names : ticketOf (s.arg 0) = ⟨c, (s.ctx c).generation⟩ := by rw [same, ← named]
    refine ⟨fun r a result body => ?_, fun r body => ?_, fun r p body => ?_⟩
    · rw [takeCommand_refuse (svcCancel_of_finished (s := s.taken 0x21) names body)]; rfl
    · rw [takeCommand_refuse (svcRelease_of_queued (s := s.taken 0x22) names body)]; rfl
    · rw [takeCommand_refuse (svcRelease_of_active (s := s.taken 0x22) names body)]; rfl

/-- Settles O43: the accepted commands through the owner's own answer. -/
theorem cancelAndRelease : Obligations.CancelAndRelease := by
  intro s c high names
  rw [exec_svcCancel_of_high high, exec_svcRelease_of_high high]
  refine ⟨fun r body => ?_, fun r p body => ?_, fun r a result body => ?_⟩
  · rw [takeCommand_accept (svcCancel_of_queued (s := s.taken 0x21) names body)]; rfl
  · rw [takeCommand_accept (svcCancel_of_active (s := s.taken 0x21) names body)]; rfl
  · rw [takeCommand_accept (svcRelease_of_finished (s := s.taken 0x22) names body)]; rfl

end Sys2Proof.Machine
end

section
/-! PROOFS. The delivery of an ABORT at a frame end (R125, R131, R142 to R144, R152). -/

namespace Sys2Proof.Machine

/-- A frame end with a RESTARTING context only counts the frame, whatever its result (R144, R152). -/
theorem ctxFrameEnd_restarting_eq (c : CtxNo) (r : Request) {p : Progress} (x : SlotInFlight) (result : FrameResult)
    (s : State) (restarting : p.phase = .restarting) :
    ctxFrameEnd c r p x result s = s.setBody c (.active r p.counted) := by
  cases lost : result.reply with
  | none => exact ctxFrameEnd_of_restarting c r x s lost restarting
  | some reply =>
    cases result <;> simp only [FrameResult.reply, reduceCtorEq] at lost
    rw [ctxFrameEnd_of_checkOk]
    exact advanceCtx_restarting (p := p.counted) x _ _ restarting

/-- The delivery judged and the slot in flight cleared are one write of the line (R138, R143). -/
theorem judgeDelivery_setSlot (n : LineNo) (o : Outcome) (s : State) :
    (judgeDelivery n o s).setSlot n .none =
      s.setLine n { s.line n with slot := .none, abortOwed := owedAfter (s.line n) o } := by
  rw [judgeDelivery_eq, State.setSlot, State.updLine, setLine_setLine, setLine_line_same]

/-- Settles O48: the delivery is all with no ACTIVE context, and a RESTARTING one is counted beside it. -/
theorem abortIsDeliveredByCheckOk : Obligations.AbortIsDeliveredByCheckOk := by
  intro s n result judged
  refine ⟨fun idle => ?_, fun c r p active restarting => ?_⟩
  · rw [serviceFrameEnd_of_none result idle, judgeDelivery_setSlot]; rfl
  · have apart (t : State) (b : ContextBody) : (t.setBody c b).setSlot n .none = (t.setSlot n .none).setBody c b := rfl
    rw [serviceFrameEnd_of_active result active, ctxFrameEnd_restarting_eq c r _ result _ restarting, apart,
      judgeDelivery_setSlot]
    rfl

end Sys2Proof.Machine
end

section
/-! PROOFS. The request slot of a frame start by the condition that holds (R139 to R141). -/

namespace Sys2Proof.Machine

section RequestSlot

variable {s : State} {n : LineNo}

/-- An ABORT owed goes before every context (R139). -/
theorem chooseSlot_of_owed (owed : (s.line n).abortOwed = true) : chooseSlot n s = (.abort, s.setSlot n .abort) := by
  rw [chooseSlot, if_pos owed]

variable (clear : (s.line n).abortOwed = false)

include clear

/-- A context in SENDING sends the nibble of its index (R139). -/
theorem chooseSlot_of_sending {c : CtxNo} {r : Request} {p : Progress} {i : Nat} (active : ActiveOn s n c r p)
    (phase : p.phase = .sending i) :
    chooseSlot n s = (.following (r.nibble i), s.setSlot n (.nibble c i p.attempts)) := by
  obtain ⟨found, body, -⟩ := active
  simp [chooseSlot, clear, found, body, phase]

/-- A RESTARTING context begins its next attempt with its first nibble (R139, R140). -/
theorem chooseSlot_of_restarting {c : CtxNo} {r : Request} {p : Progress} (active : ActiveOn s n c r p)
    (phase : p.phase = .restarting) :
    chooseSlot n s = (.first (r.nibble 0),
      (s.setBody c (.active r { p with attempts := p.attempts + 1, phase := .sending 0 })).setSlot n
        (.nibble c 0 (p.attempts + 1))) := by
  obtain ⟨found, body, -⟩ := active
  simp [chooseSlot, clear, found, body, phase]

/-- A context that waits for its reply, or is in the middle of it, sends an idle slot (R139). -/
theorem chooseSlot_of_replying {c : CtxNo} {r : Request} {p : Progress} (active : ActiveOn s n c r p)
    (phase : (∃ w, p.phase = .awaiting w) ∨ ∃ status expected nibbles, p.phase = .receiving status expected nibbles) :
    chooseSlot n s = (.idle, s.setSlot n .idle) := by
  obtain ⟨found, body, -⟩ := active
  obtain ⟨w, phase⟩ | ⟨status, expected, nibbles, phase⟩ := phase
  · simp [chooseSlot, clear, found, body, phase]
  · simp [chooseSlot, clear, found, body, phase]

variable (idle : s.activeCtx n = none)

include idle

/-- With no ACTIVE context and none waiting the slot is idle (R139). -/
theorem chooseSlot_of_no_context (queue : (s.line n).queue = []) : chooseSlot n s = (.idle, s.setSlot n .idle) := by
  simp [chooseSlot, clear, idle, queue]

/-- With no ACTIVE context the head of the queue becomes ACTIVE, in its first attempt (R139, R141). -/
theorem chooseSlot_of_queued {c : CtxNo} {rest : List CtxNo} {r : Request} (queue : (s.line n).queue = c :: rest)
    (body : (s.ctx c).body = .queued r) :
    chooseSlot n s = (.first (r.nibble 0),
      (s.setBody c (.active r { attempts := 1, framesUsed := 0, phase := .sending 0 })).setLine n
        { s.line n with queue := rest, slot := .nibble c 0 1 }) := by
  simp [chooseSlot, clear, idle, queue, body, State.setSlot, State.updLine]

end RequestSlot

/-- Settles O45: one equation of the choice for each condition. -/
theorem requestSlotChoice : Obligations.RequestSlotChoice := by
  refine fun s n => ⟨chooseSlot_of_owed, fun clear => ⟨fun c r p active => ⟨fun i phase => ?_, fun phase => ?_,
    fun phase => ?_⟩, fun idle => ⟨fun queue => ?_, fun c rest r queue body => ?_⟩⟩⟩
  · exact chooseSlot_of_sending clear active phase
  · exact chooseSlot_of_restarting clear active phase
  · exact chooseSlot_of_replying clear active phase
  · exact chooseSlot_of_no_context clear idle queue
  · exact chooseSlot_of_queued clear idle queue body

end Sys2Proof.Machine
end

section
/-! PROOFS. A failed attempt at a frame end (R142, R144 to R150). -/

namespace Sys2Proof.Machine

/-- The ABORT owed by the reason of a failed attempt (R150). -/
theorem owesAbort_eq_expected (reason : FailureReason) : reason.owesAbort = expectedOwes reason := by
  cases reason <;> rfl

/-- What a failed attempt does to its context: it restarts while attempts are left, and finishes FAILED otherwise
(R150). -/
def failureEffect (r : Request) (p : Progress) (reason : FailureReason) : CtxEffect :=
  if p.attempts < r.attemptLimit.toNat then .goesOn (expectedOwes reason) { p with phase := .restarting }
  else .finishes (expectedOwes reason) p.attempts (failedResult reason (expectedFailureStatus reason) p.framesUsed)

theorem failAttempt_eq_failureEffect (c : CtxNo) (r : Request) (p : Progress) (reason : FailureReason) (s : State) :
    failAttempt c r p reason (expectedFailureStatus reason) s = (failureEffect r p reason).apply c r s := by
  rw [failAttempt, failureEffect, owesAbort_eq_expected]
  split <;> rfl

theorem failureEffect_of_left {r : Request} {p : Progress} (reason : FailureReason)
    (left : p.attempts < r.attemptLimit.toNat) :
    failureEffect r p reason = .goesOn (expectedOwes reason) { p with phase := .restarting } := if_pos left

theorem failureEffect_of_spent {r : Request} {p : Progress} (reason : FailureReason)
    (spent : r.attemptLimit.toNat ≤ p.attempts) :
    failureEffect r p reason =
      .finishes (expectedOwes reason) p.attempts (failedResult reason (expectedFailureStatus reason) p.framesUsed) :=
  if_neg (Nat.not_lt.mpr spent)

@[simp] theorem failureEffect_owes (r : Request) (p : Progress) (reason : FailureReason) :
    (failureEffect r p reason).owes = expectedOwes reason := by
  unfold failureEffect
  split <;> rfl

/-- A finish posts SVC_FINISHED with the generation of its context (R129). -/
theorem CtxEffect.finishes_entries (c : CtxNo) (r : Request) (owes : Bool) (attempts : Nat) (x : Result) (s : State) :
    (((CtxEffect.finishes owes attempts x).apply c r s).events.entries) =
      postEntry (.svcFinished r.line c (s.ctx c).generation x.kind x.reason) s.cycle.number s.events.entries := by
  cases owes <;> simp [CtxEffect.apply, finishCtx, State.owing]

/-- A frame end with a failure reason is the effect of the failed attempt, with the frame counted, between the delivery
and the clearing of the slot in flight. -/
theorem serviceFrameEnd_of_failure {s : State} {n : LineNo} {c : CtxNo} {r : Request} {p : Progress}
    {result : FrameResult} {reason : FailureReason} (active : ActiveOn s n c r p)
    (failure : expectedFailure r p.phase result = some reason) :
    serviceFrameEnd n result s =
      ((failureEffect r p.counted reason).apply c r (judgeDelivery n result.outcome s)).setSlot n .none := by
  rw [serviceFrameEnd_of_active result active, ctxFrameEnd_of_failure c r p _ _ failure, failAttempt_eq_failureEffect,
    CtxEffect.apply_setBody]

/-- Settles O46: the effect of the failed attempt, read on the line, on the contexts and on the event queue. -/
theorem failedAttemptRestartsOrFinishes : Obligations.FailedAttemptRestartsOrFinishes := by
  intro s n c r p result reason active failure t delivered
  have ht : t = _ := serviceFrameEnd_of_failure active failure
  obtain ⟨-, -, rfl⟩ := active
  have line : t.line r.line = { s.line r.line with
      abortOwed := expectedOwes reason || owedAfter (s.line r.line) result.outcome, slot := .none } := by
    simp [ht, CtxEffect.apply_line]
  have ctx (d : CtxNo) : t.ctx d =
      if d = c then { generation := (s.ctx c).generation, body := (failureEffect r p.counted reason).body r }
      else s.ctx d := by
    simp [ht, CtxEffect.apply_ctx]
  refine ⟨?_, by rw [line], fun d other => by rw [ctx, if_neg other], (serviceFrameEnd_serviceOnly _ _ s).others,
    fun left => ?_, fun spent => ?_⟩
  · rw [line]
    cases expectedOwes reason <;> simp [owedAfter, delivered]
  · have restarts := failureEffect_of_left (p := p.counted) reason left
    rw [restarts] at ht ctx
    rw [ctx, if_pos rfl, ht, setSlot_events, CtxEffect.apply_events _ _ _ _ (by simp [CtxEffect.body]),
      judgeDelivery_events]
    exact ⟨rfl, rfl⟩
  · have finishes := failureEffect_of_spent (p := p.counted) reason spent
    rw [finishes] at ht ctx
    rw [ctx, if_pos rfl, ht, setSlot_events, CtxEffect.finishes_entries, judgeDelivery_ctx, judgeDelivery_cycle,
      judgeDelivery_events]
    exact ⟨rfl, rfl⟩

end Sys2Proof.Machine
end

section
/-! PROOFS. A READ that meets no failure (R20, R139 to R149, R154): its frames one after the other, through the request,
the status, the data nibbles and the check nibble of its reply. -/

namespace Sys2Proof.Machine

/-! ## A context in its first attempt -/

/-- Context `c` of request `r` is ACTIVE in its first attempt on line `n` after `k` frames, in a phase, with no other
context ACTIVE there and no ABORT owed. -/
structure FirstAttempt (n : LineNo) (c : CtxNo) (r : Request) (k : Nat) (phase : Phase) (s : State) : Prop where
  onLine : r.line = n
  owed : (s.line n).abortOwed = false
  body : (s.ctx c).body = .active r { attempts := 1, framesUsed := k, phase := phase }
  alone : ∀ d, d ≠ c → (s.ctx d).body.activeOn ≠ some n

/-- An ACTIVE context that is alone on its line is the one found there (R124). -/
theorem activeOn_of_alone {s : State} {n : LineNo} {c : CtxNo} {r : Request} {p : Progress}
    (body : (s.ctx c).body = .active r p) (onLine : r.line = n)
    (alone : ∀ d, d ≠ c → (s.ctx d).body.activeOn ≠ some n) : ActiveOn s n c r p := by
  obtain idle | ⟨d, r', p', found, body', onLine'⟩ := activeCtx_cases s n
  · exact absurd onLine (activeCtx_none idle body)
  · have same : d = c := by
      by_contra other
      exact alone d other (by rw [body', ContextBody.activeOn, onLine'])
    exact ⟨same ▸ found, body, onLine⟩

/-- Below the limit a frame counted is one frame more (R118). -/
theorem framesCounted_of_lt {p : Progress} (below : p.framesUsed < 65535) : framesCounted p = p.framesUsed + 1 :=
  if_pos below

/-- One frame of a line for the service engine, CHECK_OK with a reply slot. -/
def runFrame (n : LineNo) (reply : Slot) (s : State) : State :=
  serviceFrameEnd n (.checkOk 2 0 ⟨false, false⟩ reply) (chooseSlot n s).2

@[simp] theorem runFrames_nil (n : LineNo) (s : State) : runFrames n [] s = s := rfl

@[simp] theorem runFrames_cons (n : LineNo) (reply : Slot) (rest : List Slot) (s : State) :
    runFrames n (reply :: rest) s = runFrames n rest (runFrame n reply s) := rfl

theorem runFrames_append (n : LineNo) (first later : List Slot) (s : State) :
    runFrames n (first ++ later) s = runFrames n later (runFrames n first s) := by
  induction first generalizing s with
  | nil => rfl
  | cons reply rest ih => exact ih _

section Frames

variable {n : LineNo} {c : CtxNo} {r : Request} {k : Nat} {s : State}

theorem FirstAttempt.active {phase : Phase} (h : FirstAttempt n c r k phase s) :
    ActiveOn s n c r { attempts := 1, framesUsed := k, phase := phase } :=
  activeOn_of_alone h.body h.onLine h.alone

theorem FirstAttempt.setSlot {phase : Phase} (h : FirstAttempt n c r k phase s) (x : SlotInFlight) :
    FirstAttempt n c r k phase (s.setSlot n x) :=
  ⟨h.onLine, by rw [setSlot_line_same]; exact h.owed, h.body, h.alone⟩

/-- A frame end at which the attempt goes on to a phase counts one frame more. -/
theorem FirstAttempt.frameEnd {phase phase' : Phase} {reply : Slot} (h : FirstAttempt n c r k phase s)
    (go : GoesOn r phase reply) {l raw : Nat} {ew : ErrWrn}
    (body : ((serviceFrameEnd n (.checkOk l raw ew reply) s).ctx c).body =
      .active r { attempts := 1, framesUsed := k + 1, phase := phase' }) :
    FirstAttempt n c r (k + 1) phase' (serviceFrameEnd n (.checkOk l raw ew reply) s) := by
  obtain ⟨line, -, contexts, -⟩ := serviceFrameEnd_of_goesOn (l := l) (raw := raw) (ew := ew) h.active go
  refine ⟨h.onLine, ?_, body, fun d other => ?_⟩
  · rw [line]
    simp [h.owed]
  · rw [contexts d other]
    exact h.alone d other

/-! ## The request (R139, R141, R145) -/

/-- The frame start of line `n` sends nibble `i` of context `c` in its first attempt, after `k` frames. -/
structure Sends (n : LineNo) (c : CtxNo) (r : Request) (k i : Nat) (s : State) : Prop where
  attempt : FirstAttempt n c r k (.sending i) (chooseSlot n s).2
  slot : ((chooseSlot n s).2.line n).slot = .nibble c i 1

/-- A context in SENDING sends the nibble that is due. -/
theorem FirstAttempt.sends {i : Nat} (h : FirstAttempt n c r k (.sending i) s) : Sends n c r k i s := by
  have chosen := chooseSlot_of_sending h.owed h.active rfl
  refine ⟨?_, ?_⟩ <;> rw [chosen]
  · exact h.setSlot _
  · rw [setSlot_line_same]

/-- The head of the queue of a line with no ACTIVE context sends its first nibble. -/
theorem sends_of_queued {rest : List CtxNo} (clear : (s.line n).abortOwed = false) (idle : s.activeCtx n = none)
    (queue : (s.line n).queue = c :: rest) (body : (s.ctx c).body = .queued r) (onLine : r.line = n) :
    Sends n c r 0 0 s := by
  have chosen := chooseSlot_of_queued clear idle queue body
  refine ⟨⟨onLine, ?_, ?_, fun d other => ?_⟩, ?_⟩ <;> rw [chosen]
  · rw [setLine_line_same]; exact clear
  · rw [setLine_ctx, setBody_ctx_same]
  · rw [setLine_ctx, setBody_ctx_ne _ _ other]
    exact activeOn_ne_of_none idle d
  · rw [setLine_line_same]

/-- The frame of a request nibble makes the next one due, or the reply after the last (R145). -/
theorem Sends.nibbleSent {i : Nat} (h : Sends n c r k i s) (below : k < 65535) :
    FirstAttempt n c r (k + 1) (if i + 1 = r.message.length then .awaiting 0 else .sending (i + 1))
      (runFrame n .idle s) := by
  obtain ⟨-, -, -, -, sent, -⟩ := attemptAdvances _ n c r _ 2 0 ⟨false, false⟩ .idle h.attempt.active rfl
  refine h.attempt.frameEnd (.sending i (by simp)) ?_
  rw [sent i 1 rfl h.slot, framesCounted_of_lt below]

/-- The nibbles of a request from the one that is due on, a frame for each, lead to the reply. -/
theorem Sends.requestSent {m i : Nat} (h : Sends n c r k i s) (last : i + m + 1 = r.message.length)
    (below : k + m < 65535) :
    FirstAttempt n c r (k + m + 1) (.awaiting 0) (runFrames n (List.replicate (m + 1) .idle) s) := by
  induction m generalizing i k s with
  | zero => simpa [last] using h.nibbleSent below
  | succ m ih =>
    have due := h.nibbleSent (by omega)
    rw [if_neg (by omega)] at due
    have rest := ih due.sends (by omega) (by omega)
    rwa [Nat.add_right_comm k 1 m] at rest

/-! ## The reply (R146 to R149) -/

/-- A context that waits for its reply, or is in the middle of it, sends an idle slot and stays as it is (R139). -/
theorem FirstAttempt.idle {phase : Phase} (h : FirstAttempt n c r k phase s)
    (replying : (∃ w, phase = .awaiting w) ∨ ∃ status expected nibbles, phase = .receiving status expected nibbles) :
    FirstAttempt n c r k phase (chooseSlot n s).2 := by
  rw [chooseSlot_of_replying h.owed h.active replying]
  exact h.setSlot _

/-- An OK status begins the reply (R146, R147). -/
theorem FirstAttempt.runFrame_status {w : Nat} (h : FirstAttempt n c r k (.awaiting w) s) (below : k < 65535) :
    FirstAttempt n c r (k + 1) (.receiving .ok (expectedReply .ok r.op) [0x0]) (runFrame n (.first 0x0) s) := by
  have h := h.idle (.inl ⟨w, rfl⟩)
  obtain ⟨-, -, -, -, -, -, status, -⟩ := attemptAdvances _ n c r _ 2 0 ⟨false, false⟩ (.first 0x0) h.active rfl
  refine h.frameEnd (.status w (status := .ok) rfl) ?_
  obtain ⟨kept, table, begun⟩ := status w 0x0 rfl rfl
  cases table
  rw [begun, framesCounted_of_lt below]

/-- A nibble that leaves the reply incomplete is kept (R147). -/
theorem FirstAttempt.runFrame_nibble {status : EncStatus} {expected : Nat} {nibbles : List Nibble} (d : Nibble)
    (h : FirstAttempt n c r k (.receiving status expected nibbles) s) (short : nibbles.length + 1 ≠ expected)
    (below : k < 65535) :
    FirstAttempt n c r (k + 1) (.receiving status expected (nibbles ++ [d])) (runFrame n (.following d) s) := by
  have h := h.idle (.inr ⟨status, expected, nibbles, rfl⟩)
  obtain ⟨-, -, -, -, -, -, -, kept, -⟩ := attemptAdvances _ n c r _ 2 0 ⟨false, false⟩ (.following d) h.active
    (if_neg short)
  refine h.frameEnd (.nibble status d short) ?_
  rw [kept status expected nibbles d rfl rfl short, framesCounted_of_lt below]

/-- Nibbles that leave the reply incomplete are kept in their order, a frame for each. -/
theorem FirstAttempt.runFrames_nibbles {status : EncStatus} {expected : Nat} {nibbles : List Nibble}
    (ds : List Nibble) (h : FirstAttempt n c r k (.receiving status expected nibbles) s)
    (short : nibbles.length + ds.length < expected) (below : k + ds.length < 65535) :
    FirstAttempt n c r (k + ds.length) (.receiving status expected (nibbles ++ ds))
      (runFrames n (ds.map .following) s) := by
  induction ds generalizing nibbles k s with
  | nil => simpa using h
  | cons d ds ih =>
    simp only [List.length_cons] at short below
    have rest := ih (h.runFrame_nibble d (by omega) (by omega)) (by simp; omega) (by omega)
    rw [List.append_assoc, Nat.add_right_comm] at rest
    exact rest

/-- The check nibble of a whole OK reply to a READ finishes the context DONE with its bytes (R149, R151). -/
theorem FirstAttempt.runFrame_check {expected count : Nat} {nibbles : List Nibble}
    (h : FirstAttempt n c r k (.receiving .ok expected nibbles) s) (whole : nibbles.length + 1 = expected)
    (read : r.op = .read count) (below : k < 65535) :
    ((runFrame n (.following (crc4 nibbles)) s).ctx c).body =
      .finished r 1 (doneResult .ok (pairBytes nibbles.tail) (k + 1)) := by
  have h := h.idle (.inr ⟨.ok, expected, nibbles, rfl⟩)
  have accepted : expectedFailure r (.receiving .ok expected nibbles)
      (.checkOk 2 0 ⟨false, false⟩ (.following (crc4 nibbles))) = none := by
    simp [expectedFailure, whole]
  obtain ⟨-, -, -, -, -, -, -, -, finishes, -⟩ := attemptAdvances _ n c r _ 2 0 ⟨false, false⟩ _ h.active accepted
  obtain ⟨body, -⟩ := finishes .ok expected nibbles _ rfl rfl whole
  rw [runFrame, body, read, framesCounted_of_lt below]
  rfl

end Frames

/-! ## The whole READ (R154) -/

/-- The data nibbles of a reply to a READ, the high one of each byte first (R20). -/
def dataNibbles (data : List Byte) : List Nibble := data.flatMap fun b => [highNibble b, lowNibble b]

theorem promptReply_eq (data : List Byte) :
    promptReply data = List.replicate 5 .idle ++
      (.first 0x0 :: ((dataNibbles data).map .following ++ [.following (crc4 (0x0 :: dataNibbles data))])) := by
  simp [promptReply, dataNibbles]

theorem dataNibbles_length (data : List Byte) : (dataNibbles data).length = 2 * data.length := by
  simp [dataNibbles, Nat.mul_comm]

theorem append_highNibble_lowNibble (b : Byte) : (highNibble b ++ lowNibble b : BitVec 8) = b :=
  BitVec.extractLsb'_append_extractLsb' (w := 4) (len := 4)

/-- The data nibbles of a reply make its bytes again. -/
theorem pairBytes_dataNibbles (data : List Byte) : pairBytes (dataNibbles data) = data := by
  induction data with
  | nil => rfl
  | cons b rest ih =>
    calc pairBytes (dataNibbles (b :: rest))
      _ = (highNibble b ++ lowNibble b) :: pairBytes (dataNibbles rest) := rfl
      _ = b :: rest := by rw [append_highNibble_lowNibble, ih]

theorem promptReply_length (data : List Byte) : (promptReply data).length = 5 + 2 * data.length + 2 := by
  simp only [promptReply_eq, List.length_append, List.length_cons, List.length_nil, List.length_map,
    List.length_replicate, dataNibbles_length]
  omega

/-- Settles O49: the request's five frames, the status, the data nibbles and the check nibble. -/
theorem readCompletesInItsFewestFrames : Obligations.ReadCompletesInItsFewestFrames := by
  intro s n c rest r data clear idle queue body onLine read _ few
  refine ⟨promptReply_length data, ?_⟩
  have count := dataNibbles_length data
  have asked := (sends_of_queued clear idle queue body onLine).requestSent (m := 4) (by rw [message_of_read read]; rfl)
    (by omega)
  have begun := asked.runFrame_status (by omega)
  have expected : expectedReply .ok r.op = 2 * data.length + 2 := by rw [read]; rfl
  have whole : ([0x0] ++ dataNibbles data).length + 1 = expectedReply .ok r.op := by simp [count, expected]
  have received := begun.runFrames_nibbles (dataNibbles data) (by rw [List.length_singleton]; omega) (by omega)
  have finished := received.runFrame_check whole read (by omega)
  rw [promptReply_eq, runFrames_append, runFrames_cons, runFrames_append]
  have frames : 0 + 4 + 1 + 1 + (dataNibbles data).length + 1 = 5 + 2 * data.length + 2 := by omega
  have bytes : pairBytes ([0x0] ++ dataNibbles data).tail = data := pairBytes_dataNibbles data
  rw [frames, bytes] at finished
  exact finished

end Sys2Proof.Machine
end

section
/-! PROOFS. The event queue (R160 to R166): a post at a queue with room and at a queue without, the bound of the queue,
and EVENT_POP, EVENT_FLUSH and IRQ. -/

namespace Sys2Proof.Machine

/-! ## A post (R160, R161) -/

/-- A lost post advances a LOST entry at the tail. -/
theorem recordLoss_of_lost {tail : Event} {count : Nat} (lost : tail.info = .lost count) (cycle : BitVec 16)
    (before : List Event) :
    recordLoss cycle (before ++ [tail]) = before ++ [⟨.lost (satSucc Config.count16Limit count), tail.cycle⟩] := by
  rw [recordLoss_append]
  simp only [lost]

/-- A lost post gets a LOST entry behind any other tail. -/
theorem recordLoss_of_not_lost {tail : Event} (other : tail.isLost = false) (cycle : BitVec 16) (before : List Event) :
    recordLoss cycle (before ++ [tail]) = before ++ [tail] ++ [⟨.lost 1, cycle⟩] := by
  rw [recordLoss_append, List.append_assoc]
  obtain ⟨info, posted⟩ := tail
  cases info
  case lost count => cases other
  all_goals rfl

theorem postEntry_of_room {q : List Event} (room : q.length ≤ 30) (i : EventInfo) (cycle : BitVec 16) :
    postEntry i cycle q = q ++ [⟨i, cycle⟩] :=
  if_pos room

theorem postEntry_of_full {q : List Event} (full : 31 ≤ q.length) (i : EventInfo) (cycle : BitVec 16) :
    postEntry i cycle q = recordLoss cycle q :=
  if_neg (Nat.not_le.mpr full)

/-- Settles O50: a post with room, and the two tails of a queue without. -/
theorem postIsAppendedOrLost : Obligations.PostIsAppendedOrLost := by
  intro s i
  refine ⟨fun room => postEntry_of_room room i _, fun full before tail entries =>
    ⟨fun count lost => ?_, fun other => ?_⟩⟩
  · rw [post_entries, postEntry_of_full full, entries, recordLoss_of_lost lost]
    rfl
  · rw [post_entries, postEntry_of_full full, entries, recordLoss_of_not_lost other]

/-! ## The bound of the queue (R160) -/

/-- The law of R160, read on the queue itself. -/
def BoundedQueue (q : List Event) : Prop :=
  q.length ≤ 32 ∧ (q.length = 32 → q.getLast?.map Event.isLost = some true)

theorem eventLaw_iff (s : State) : EventLaw s ↔ BoundedQueue s.events.entries := Iff.rfl

/-- A queue with room for one more entry meets the bound, whatever its tail. -/
theorem boundedQueue_of_lt {q : List Event} (room : q.length < 32) : BoundedQueue q :=
  ⟨Nat.le_of_lt room, fun full => absurd full (Nat.ne_of_lt room)⟩

theorem boundedQueue_append_iff (before : List Event) (tail : Event) :
    BoundedQueue (before ++ [tail]) ↔ before.length ≤ 31 ∧ (before.length = 31 → tail.isLost = true) := by
  simp [BoundedQueue, Nat.lt_succ_iff]

/-- The head taken from a queue leaves room. -/
theorem BoundedQueue.tail {head : Event} {rest : List Event} (h : BoundedQueue (head :: rest)) : BoundedQueue rest := by
  obtain ⟨few, -⟩ := h
  rw [List.length_cons] at few
  exact boundedQueue_of_lt few

/-- A lost post keeps the bound: at 32 entries the tail is a LOST entry, which advances in place. -/
theorem recordLoss_bounded {before : List Event} {tail : Event} (h : BoundedQueue (before ++ [tail]))
    (cycle : BitVec 16) : BoundedQueue (recordLoss cycle (before ++ [tail])) := by
  obtain ⟨few, lostTail⟩ := (boundedQueue_append_iff before tail).mp h
  cases lost : tail.isLost with
  | true =>
    obtain ⟨count, info⟩ : ∃ count, tail.info = .lost count := by
      unfold Event.isLost at lost
      split at lost
      · next count info => exact ⟨count, info⟩
      · cases lost
    rw [recordLoss_of_lost info, boundedQueue_append_iff]
    exact ⟨few, fun _ => rfl⟩
  | false =>
    have notFull : before.length ≠ 31 := fun full => by simp [lostTail full] at lost
    rw [recordLoss_of_not_lost lost, boundedQueue_append_iff, List.length_append, List.length_singleton]
    exact ⟨by omega, fun _ => rfl⟩

theorem postEntry_bounded {q : List Event} (h : BoundedQueue q) (i : EventInfo) (cycle : BitVec 16) :
    BoundedQueue (postEntry i cycle q) := by
  obtain room | full := Nat.lt_or_ge q.length 31
  · rw [postEntry_of_room (Nat.le_of_lt_succ room)]
    refine boundedQueue_of_lt ?_
    rw [List.length_append, List.length_singleton]
    omega
  · rw [postEntry_of_full full]
    have some' : q ≠ [] := List.ne_nil_of_length_pos (Nat.zero_lt_of_lt full)
    rw [← List.dropLast_append_getLast some'] at h ⊢
    exact recordLoss_bounded h cycle

theorem postAll_bounded {q : List Event} (h : BoundedQueue q) (infos : List EventInfo) (cycle : BitVec 16) :
    BoundedQueue (postAll infos cycle q) := by
  induction infos generalizing q with
  | nil => exact h
  | cons i infos ih => exact ih (postEntry_bounded h i cycle)

/-! ## EVENT_POP, EVENT_FLUSH and IRQ (R162 to R166) -/

theorem eventPop_of_empty {s : State} (empty : s.events.entries = []) : eventPop s = refuse .queueEmpty s := by
  simp only [eventPop, empty]

theorem eventPop_of_cons {s : State} {head : Event} {rest : List Event} (entries : s.events.entries = head :: rest) :
    eventPop s = accept rest.length (s.setEntries rest) := by
  simp only [eventPop, entries]

/-- IRQ is asserted while the queue holds an entry of an enabled class (R166). -/
theorem irq_iff (s : State) :
    s.irq = true ↔ ∃ e ∈ s.events.entries, s.events.mask.enables e.info.eventClass = true :=
  List.any_eq_true

/-- A LOST entry is of the class SYSTEM, which is always enabled (R158, R165). -/
theorem enables_of_isLost {e : Event} (lost : e.isLost = true) (m : ClassMask) :
    m.enables e.info.eventClass = true := by
  unfold Event.isLost at lost
  split at lost
  · next count info => rw [info]; rfl
  · cases lost

/-- A queue of 32 entries asserts IRQ by the LOST entry at its tail. -/
theorem irq_of_full {s : State} (law : EventLaw s) (full : s.events.entries.length = 32) : s.irq = true := by
  obtain ⟨-, lostTail⟩ := law
  obtain ⟨e, last, lost⟩ := Option.map_eq_some_iff.mp (lostTail full)
  exact (irq_iff s).mpr ⟨e, List.mem_of_getLast? last, enables_of_isLost lost _⟩

/-- Settles O51: the answers of the two owners, and IRQ by the class of each entry. -/
theorem queueCommandsAndIrq : Obligations.QueueCommandsAndIrq := by
  intro s
  refine ⟨fun high => ?_, ?_, irq_of_full⟩
  · have pop : exec .eventPop s = .next (takeCommand 0x28 eventPop s) := whileRunning_of_high high _
    have flush : exec .eventFlush s = .next (takeCommand 0x29 eventFlush s) := whileRunning_of_high high _
    rw [pop, flush]
    refine ⟨fun empty => ?_, fun head rest entries => ?_, ?_⟩
    · rw [takeCommand_refuse (eventPop_of_empty (s := s.taken 0x28) empty)]
      rfl
    · rw [takeCommand_accept (eventPop_of_cons (s := s.taken 0x28) entries)]
      rfl
    · rw [takeCommand_accept (v := s.events.entries.length) (t := (s.taken 0x29).setEntries []) rfl]
      rfl
  · rw [irq_iff]
    refine exists_congr fun e => and_congr_right fun _ => ?_
    cases e.info.eventClass with
    | cycle => exact Iff.rfl
    | line => exact Iff.rfl
    | service => exact Iff.rfl
    | fault => exact Iff.rfl
    | system => exact iff_of_true rfl trivial

end Sys2Proof.Machine
end

section
/-! PROOFS. The laws of the event queue and of the fault cause set (R160, R168): work that posts and raises keeps them,
and the work of a line, the triggers and the resets are such work. -/

namespace Sys2Proof.Machine

/-! ## Work that keeps the laws -/

/-- The laws of the event queue and of the fault cause set, kept from one state to another. -/
structure ReportsKept (s t : State) : Prop where
  events : EventLaw s → EventLaw t
  faults : FaultLaw s → FaultLaw t

theorem ReportsKept.trans {s t u : State} (h : ReportsKept s t) (k : ReportsKept t u) : ReportsKept s u :=
  ⟨k.events ∘ h.events, k.faults ∘ h.faults⟩

/-- Work that leaves the queue and the fault cause set. -/
theorem reportsKept_of_same {s t : State} (events : t.events.entries = s.events.entries)
    (faults : t.faults = s.faults) : ReportsKept s t :=
  ⟨fun law => (eventLaw_iff t).mpr (events ▸ law), fun law => by rwa [FaultLaw, faults]⟩

theorem ReportsKept.refl (s : State) : ReportsKept s s := reportsKept_of_same rfl rfl

/-- Work that posts keeps the bound of the queue. -/
theorem Posts.eventLaw {infos : List EventInfo} {s t : State} (posts : Posts infos s t) (law : EventLaw s) :
    EventLaw t := by
  obtain ⟨-, entries⟩ := posts
  rw [eventLaw_iff, entries]
  exact postAll_bounded law infos _

/-- Work that posts and leaves the fault cause set. -/
theorem Posts.reportsKept {infos : List EventInfo} {s t : State} (posts : Posts infos s t)
    (faults : t.faults = s.faults) : ReportsKept s t :=
  ⟨posts.eventLaw, fun law => by rwa [FaultLaw, faults]⟩

/-- A cause added to a set that does not hold it. -/
theorem nodup_append_of_new {faults : List FaultCause} (law : faults.Nodup) {P : Prop} [Decidable P]
    {cause : FaultCause} (new : P → cause ∉ faults) : (faults ++ if P then [cause] else []).Nodup := by
  split
  · next h => exact List.nodup_append_comm.mp (List.nodup_cons.mpr ⟨new h, law⟩)
  · rwa [List.append_nil]

/-- An event posted behind work that leaves the queue and the fault cause set. -/
theorem post_reportsKept {s u : State} (i : EventInfo) (events : u.events = s.events) (faults : u.faults = s.faults) :
    ReportsKept s (post i u) :=
  (reportsKept_of_same (by rw [events]) faults).trans ((post_posts i u).reportsKept rfl)

theorem setLine_reportsKept (n : LineNo) (l : Line) (s : State) : ReportsKept s (s.setLine n l) :=
  reportsKept_of_same rfl rfl

/-! ## The work of a line -/

/-- A departure raises LINE_LOST when the set does not hold it (R169). -/
theorem departService_reportsKept (n : LineNo) (d : Departure) (why : LineReason) (s : State) :
    ReportsKept s (departService n d why s) := by
  obtain ⟨_, posts⟩ := departService_posts_first n d why s
  refine ⟨posts.eventLaw, fun law => ?_⟩
  rw [FaultLaw, departService_faults, departCauses]
  exact nodup_append_of_new law fun ⟨_, _, new⟩ => new

theorem deferredDisable_reportsKept (n : LineNo) (s : State) : ReportsKept s (deferredDisable n s) := by
  obtain ⟨_, posts⟩ := deferredDisable_posts_some n s
  exact posts.reportsKept (deferredDisable_faults n s)

/-- A running frame end up to its health counting raises CONTINUITY when the set does not hold it (R60, R169). -/
theorem frameWork_reportsKept (n : LineNo) (result : FrameResult) (s : State) :
    ReportsKept s (frameWork n result s) := by
  refine ⟨(frameWork_posts n result s).eventLaw, fun law => ?_⟩
  rw [FaultLaw, frameWork_faults, continuityCauses]
  exact nodup_append_of_new law fun ⟨_, _, new⟩ => new

theorem countGood_reportsKept (n : LineNo) (s : State) : ReportsKept s (countGood n s) := by
  simp only [countGood]
  split
  · exact reportsKept_of_same rfl rfl
  · split
    · exact post_reportsKept _ rfl rfl
    · exact reportsKept_of_same rfl rfl
  · exact .refl s

theorem countFailure_reportsKept (n : LineNo) (s : State) : ReportsKept s (countFailure n s) := by
  simp only [countFailure]
  split
  · split
    · exact post_reportsKept _ rfl rfl
    · exact reportsKept_of_same rfl rfl
  · split
    · exact (setLine_reportsKept n _ s).trans (departService_reportsKept n .lost .failures _)
    · exact reportsKept_of_same rfl rfl
  · exact .refl s

theorem countSample_reportsKept (n : LineNo) (status : SampleStatus) (s : State) :
    ReportsKept s (countSample n status s) := by
  unfold countSample
  split
  · exact countGood_reportsKept n s
  · exact countFailure_reportsKept n s

theorem recordWritten_reportsKept (n : LineNo) (s : State) : ReportsKept s (recordWritten n s) :=
  (recordWritten_posts n s).reportsKept (by rw [(recordWritten_told n s).frame])

/-- The end of a running frame, step by step (R36). -/
theorem runningEnd_reportsKept (n : LineNo) (result : FrameResult) (s : State) :
    ReportsKept s (runningEnd n result s) := by
  have counted := (frameWork_reportsKept n result s).trans (countSample_reportsKept n (expectedStatus s n result) _)
  have recorded : ReportsKept s (frameRecord n result s) := counted.trans (reportsKept_of_same rfl rfl)
  rw [runningEnd_eq]
  exact (recorded.trans (recordWritten_reportsKept n _)).trans (deferredDisable_reportsKept n _)

theorem probeTimeout_reportsKept (n : LineNo) (s : State) : ReportsKept s (probeTimeout n s) := by
  unfold probeTimeout
  split
  · exact departService_reportsKept n .lost .probeTimeout s
  · exact .refl s

/-- The end of a probe frame: the line enters RUN, or the limit of its probe frames is looked at (R34, R35). -/
theorem probeEnd_reportsKept (n : LineNo) (result : FrameResult) (s : State) :
    ReportsKept s (probeEnd n result s) := by
  rw [probeEnd_eq]
  refine ReportsKept.trans ?_ (deferredDisable_reportsKept n _)
  obtain short | good := Nat.lt_or_ge ((s.line n).runAfter result) (s.line n).profile.probeGood.toNat
  · rw [probeJudged_of_short short]
    exact (setLine_reportsKept n _ s).trans (probeTimeout_reportsKept n _)
  · rw [probeJudged_of_run good]
    exact post_reportsKept (.lineState n .run .probed) (setLine_events s n _) (setLine_faults s n _)

theorem recoveryExpiry_reportsKept (n : LineNo) (s : State) : ReportsKept s (recoveryExpiry n s) := by
  by_cases running : (s.line n).running = true
  · rw [recoveryExpiry_eq_countFailure running]
    have posted : ReportsKept s (notReadyPosted n s) := post_reportsKept _ rfl rfl
    exact posted.trans (countFailure_reportsKept n _)
  · by_cases probing : (s.line n).state = .probing
    · rw [recoveryExpiry_of_probing probing]
      exact (setLine_reportsKept n _ s).trans (probeTimeout_reportsKept n _)
    · rw [recoveryExpiry_of_other running probing]
      exact reportsKept_of_same rfl rfl

theorem enterProbing_reportsKept (n : LineNo) (da : Bool) (why : LineReason) (s : State) :
    ReportsKept s (enterProbing n da why s) := by
  rw [enterProbing_eq]
  exact post_reportsKept (.lineState n .probing why) (setLine_events s n _) (setLine_faults s n _)

/-- A context finished posts its SVC_FINISHED (R129). -/
theorem finishCtx_reportsKept {s u : State} (c : CtxNo) (r : Request) (attempts : Nat) (result : Result)
    (events : u.events = s.events) (faults : u.faults = s.faults) : ReportsKept s (finishCtx c r attempts result u) :=
  post_reportsKept _ events faults

/-! ## The triggers (R77 to R84) -/

theorem completeCycle_reportsKept (s : State) : ReportsKept s (completeCycle s) :=
  (completeCycle_posts s).reportsKept (by rw [(completeCycle_told s).frame])

/-- A cycle start posts nothing but the completion of a cycle in which no line participates (R84). -/
theorem startCycle_reportsKept (source : TriggerSource) (s : State) : ReportsKept s (startCycle source s) := by
  have active : ReportsKept s (cycleActive source s) := by
    rw [cycleActive_frame]
    exact reportsKept_of_same rfl rfl
  rw [startCycle_eq]
  split
  · exact active.trans (completeCycle_reportsKept _)
  · exact active

theorem overrun_reportsKept (source : TriggerSource) (s : State) : ReportsKept s (overrun source s) := by
  unfold overrun
  exact post_reportsKept _ rfl rfl

theorem takeTrigger_reportsKept (source : TriggerSource) (s : State) : ReportsKept s (takeTrigger source s) := by
  unfold takeTrigger
  split
  · exact .refl s
  · exact startCycle_reportsKept source s
  · exact overrun_reportsKept source s

theorem syncEdge_reportsKept (s : State) : ReportsKept s (syncEdge s) := by
  unfold syncEdge
  split
  · exact takeTrigger_reportsKept .sync s
  · exact .refl s

theorem timerExpiry_reportsKept (s : State) : ReportsKept s (timerExpiry s) := by
  unfold timerExpiry
  split
  · have restarted : ReportsKept s
        { s with cycle := { s.cycle with timer := s.cycle.timer.restart s.cycle.period.toNat } } :=
      reportsKept_of_same rfl rfl
    exact restarted.trans (takeTrigger_reportsKept .timer _)
  · exact .refl s

/-! ## The resets (R167, R173) -/

/-- A reset empties the queue and leaves the cause RESET alone. -/
theorem resetBlocks_reportsKept (s : State) : ReportsKept s (resetBlocks s) :=
  ⟨fun _ => boundedQueue_of_lt (Nat.zero_lt_succ 31), fun _ => by simp [FaultLaw, resetBlocks, State.reset]⟩

end Sys2Proof.Machine
end

section
/-! PROOFS. Every step keeps the laws of the event queue and of the fault cause set (R160, R168). -/

namespace Sys2Proof.Machine

/-! ## The owners of the commands -/

/-- The owner of a command keeps the laws, whatever it answers. -/
def KeepsReports (owner : State → Answer) : Prop := ∀ s, ReportsKept s (owner s).state

theorem withLine_keepsReports {owner : LineNo → State → Answer} (keeps : ∀ n, KeepsReports (owner n)) :
    KeepsReports (withLine owner) := fun s => withLine_state (.refl s) fun n => keeps n s

theorem lineEnable_keepsReports (da : Bool) (n : LineNo) : KeepsReports (lineEnable da n) := by
  intro s
  unfold lineEnable
  repeat' split
  · exact .refl s
  · exact .refl s
  · exact enterProbing_reportsKept n da .enabled s

theorem lineRestart_keepsReports (da : Bool) (n : LineNo) : KeepsReports (lineRestart da n) := by
  intro s
  unfold lineRestart
  split
  · exact .refl s
  · exact enterProbing_reportsKept n da .restarted s

theorem lineDisable_keepsReports (n : LineNo) : KeepsReports (lineDisable n) := by
  intro s
  unfold lineDisable
  repeat' split
  · exact .refl s
  · exact reportsKept_of_same rfl rfl
  · exact departService_reportsKept n .off .disabled s

theorem cycleStart_keepsReports : KeepsReports cycleStart := by
  intro s
  unfold cycleStart
  repeat' split
  all_goals exact reportsKept_of_same rfl rfl

theorem cycleStop_keepsReports : KeepsReports cycleStop := by
  intro s
  unfold cycleStop
  split
  all_goals exact reportsKept_of_same rfl rfl

theorem triggerCommand_keepsReports : KeepsReports triggerCommand := by
  intro s
  unfold triggerCommand
  split
  · exact .refl s
  · exact takeTrigger_reportsKept .host s

/-- A late publication is reported (R98). -/
theorem bankRelease_keepsReports : KeepsReports bankRelease := by
  intro s
  simp only [bankRelease]
  split
  · exact post_reportsKept _ rfl rfl
  · exact reportsKept_of_same rfl rfl

theorem setPreset_keepsReports (n : LineNo) : KeepsReports (setPreset n) := by
  intro s
  unfold setPreset
  split
  all_goals exact reportsKept_of_same rfl rfl

theorem cancelPreset_keepsReports (n : LineNo) : KeepsReports (cancelPreset n) := by
  intro s
  unfold cancelPreset
  split
  all_goals exact reportsKept_of_same rfl rfl

theorem ackContinuity_keepsReports (n : LineNo) : KeepsReports (ackContinuity n) := by
  intro s
  unfold ackContinuity
  split
  all_goals exact reportsKept_of_same rfl rfl

theorem svcOpen_keepsReports (n : LineNo) : KeepsReports (svcOpen n) := by
  intro s
  obtain same | ⟨c, op, code, -, -, opened⟩ := svcOpen_cases n s
  · rw [same]; exact .refl s
  · rw [opened]; exact reportsKept_of_same rfl rfl

/-- A cancelled context is finished (R130, R131). -/
theorem svcCancel_keepsReports : KeepsReports svcCancel := by
  intro s
  simp only [svcCancel]
  repeat' split
  · next r _ => exact finishCtx_reportsKept _ r _ _ rfl rfl
  · next r p _ => exact finishCtx_reportsKept _ r _ _ rfl rfl
  · exact .refl s
  · exact .refl s

theorem svcRelease_keepsReports : KeepsReports svcRelease := by
  intro s
  simp only [svcRelease]
  repeat' split
  all_goals exact reportsKept_of_same rfl rfl

/-- A pop leaves room in the queue (R162). -/
theorem eventPop_keepsReports : KeepsReports eventPop := by
  intro s
  cases entries : s.events.entries with
  | nil => rw [eventPop_of_empty entries]; exact .refl s
  | cons head rest =>
    rw [eventPop_of_cons entries]
    refine ⟨fun law => ?_, id⟩
    rw [eventLaw_iff, entries] at law
    exact law.tail

/-- A flush empties the queue (R163). -/
theorem eventFlush_keepsReports : KeepsReports eventFlush := fun _ =>
  ⟨fun _ => boundedQueue_of_lt (Nat.zero_lt_succ 31), id⟩

/-- A clear keeps some of the causes (R171). -/
theorem faultClear_keepsReports : KeepsReports faultClear := fun s => ⟨id, fun law => law.filter s.faultHolds⟩

theorem softReset_keepsReports : KeepsReports softReset := fun s =>
  (resetBlocks_reportsKept s).trans (post_reportsKept .softResetDone rfl rfl)

/-- Every owner of a command keeps the laws. -/
theorem ownerOf_keepsReports {c : Instr} {owner : State → Answer} (owned : ownerOf c = some owner) :
    KeepsReports owner := by
  cases c <;> simp only [ownerOf, Option.some.injEq, reduceCtorEq] at owned
  all_goals subst owned
  case lineEnable da => exact withLine_keepsReports (lineEnable_keepsReports da)
  case lineDisable => exact withLine_keepsReports lineDisable_keepsReports
  case lineRestart da => exact withLine_keepsReports (lineRestart_keepsReports da)
  case cycleStart => exact cycleStart_keepsReports
  case cycleStop => exact cycleStop_keepsReports
  case trigger => exact triggerCommand_keepsReports
  case bankHold => exact fun _ => reportsKept_of_same rfl rfl
  case bankRelease => exact bankRelease_keepsReports
  case setPreset => exact withLine_keepsReports setPreset_keepsReports
  case cancelPreset => exact withLine_keepsReports cancelPreset_keepsReports
  case ackContinuity => exact withLine_keepsReports ackContinuity_keepsReports
  case svcOpen => exact withLine_keepsReports svcOpen_keepsReports
  case svcCancel => exact svcCancel_keepsReports
  case svcRelease => exact svcRelease_keepsReports
  case eventPop => exact eventPop_keepsReports
  case eventFlush => exact eventFlush_keepsReports
  case faultClear => exact faultClear_keepsReports
  case softReset => exact softReset_keepsReports

/-- A command taken is its owner's work between two writes of the command port (R180). -/
theorem takeCommand_reportsKept {owner : State → Answer} (keeps : KeepsReports owner) (code : Word) (s : State) :
    ReportsKept s (takeCommand code owner s) := by
  have taken : ReportsKept s (s.taken code) := reportsKept_of_same rfl rfl
  have answered : ReportsKept (owner (s.taken code)).state (takeCommand code owner s) := reportsKept_of_same rfl rfl
  exact (taken.trans (keeps _)).trans answered

/-! ## The effects of a step -/

/-- Every effect of a step keeps the laws. -/
theorem stepEffect_reportsKept {s t : State} (effect : StepEffect s t) : ReportsKept s t := by
  cases effect with
  | none => exact .refl s
  | command owned code => exact takeCommand_reportsKept (ownerOf_keepsReports owned) code s
  | badCommand value => exact reportsKept_of_same rfl rfl
  | argument i value => exact reportsKept_of_same rfl rfl
  | cycleConfiguration value => exact reportsKept_of_same rfl rfl
  | serviceConfiguration value => exact reportsKept_of_same rfl rfl
  | classMask value => exact reportsKept_of_same rfl rfl
  | profile n k value => exact reportsKept_of_same rfl rfl
  | syncEdge => exact syncEdge_reportsKept s
  | timerExpiry => exact timerExpiry_reportsKept s
  | tick => exact reportsKept_of_same rfl rfl
  | probeEnd samples probing inFlight => exact probeEnd_reportsKept _ _ s
  | runningEnd samples running inFlight => exact runningEnd_reportsKept _ _ s
  | becomeReady observes => exact reportsKept_of_same rfl rfl
  | recoveryExpiry reached => exact recoveryExpiry_reportsKept _ s
  | resetLow => exact (resetBlocks_reportsKept s).trans (reportsKept_of_same rfl rfl)
  | resetHigh => exact resetBlocks_reportsKept s

/-- Settles O55: a step is one of the effects on the state with its front command taken, and each keeps the laws. -/
theorem stepKeepsEventAndFaultLaws : Obligations.StepKeepsEventAndFaultLaws := by
  intro s t events faults run
  obtain ⟨pending, effect⟩ := step_effect run
  have kept := stepEffect_reportsKept effect
  exact ⟨kept.events events, kept.faults faults⟩

end Sys2Proof.Machine
end

section
/-! PROOFS. The fault unit: how a cause enters the fault cause set and leaves it, and the FAULT output (R169 to R172). -/

namespace Sys2Proof.Machine

/-! ## Raising (R169) -/

theorem raiseCause_of_mem {cause : FaultCause} {s : State} (present : cause ∈ s.faults) : raiseCause cause s = s :=
  if_pos present

theorem raiseCause_of_notMem {cause : FaultCause} {s : State} (absent : cause ∉ s.faults) :
    raiseCause cause s = { s with faults := s.faults ++ [cause] }.posted [.faultRaised cause] :=
  if_neg absent

/-! ## Clearing (R171) -/

/-- The causes that a FAULT_CLEAR leaves in the set. -/
def State.keptCauses (s : State) : List FaultCause := s.faults.filter s.faultHolds

theorem mem_keptCauses {s : State} {cause : FaultCause} :
    cause ∈ s.keptCauses ↔ cause ∈ s.faults ∧ s.faultHolds cause = true := List.mem_filter

/-- RESET has no condition that could keep it. -/
theorem reset_notMem_keptCauses (s : State) : .reset ∉ s.keptCauses := fun kept =>
  Bool.false_ne_true (mem_keptCauses.mp kept).2

theorem lineLost_mem_keptCauses (s : State) (n : LineNo) :
    .lineLost n ∈ s.keptCauses ↔ .lineLost n ∈ s.faults ∧ (s.line n).state = .lost :=
  mem_keptCauses.trans (and_congr_right fun _ => decide_eq_true_iff)

theorem continuity_mem_keptCauses (s : State) (n : LineNo) :
    .continuity n ∈ s.keptCauses ↔ .continuity n ∈ s.faults ∧ (s.line n).pos.continuity = .uncertain :=
  mem_keptCauses.trans (and_congr_right fun _ => decide_eq_true_iff)

/-- FAULT_CLEAR is accepted in every state, and changes the set and the command port only. -/
theorem exec_faultClear {s : State} (high : s.resetLow = false) :
    exec .faultClear s = .next (({ s with faults := s.keptCauses }).answered 0x30 0x3000
      (BitVec.ofNat 32 s.keptCauses.length)) := by
  have run : exec .faultClear s = .next (takeCommand 0x30 faultClear s) := whileRunning_of_high high _
  have accepted : faultClear (s.taken 0x30) =
      accept s.keptCauses.length { s.taken 0x30 with faults := s.keptCauses } := rfl
  rw [run, takeCommand_accept accepted]
  rfl

/-! ## The FAULT output (R172) -/

theorem faultOutput_iff (s : State) : s.faultOutput = true ↔ ∃ cause, cause ∈ s.faults := by
  simp only [State.faultOutput, Bool.not_eq_true', List.isEmpty_eq_false_iff_exists_mem]

/-- Settles O52: the causes kept by a FAULT_CLEAR are those of the set whose condition the line still meets. -/
theorem faultCausesAreRaisedAndCleared : Obligations.FaultCausesAreRaisedAndCleared := fun s =>
  ⟨fun _ => ⟨raiseCause_of_mem, raiseCause_of_notMem⟩,
    fun high => ⟨s.keptCauses, exec_faultClear high, reset_notMem_keptCauses s, lineLost_mem_keptCauses s,
      continuity_mem_keptCauses s⟩,
    faultOutput_iff s⟩

end Sys2Proof.Machine
end

section
/-! PROOFS. What a command answers (R174, R180): every command answers a next state with the waiting commands left, and
a refused one leaves all but the command port. -/

namespace Sys2Proof.Machine

/-! ## The waiting commands through the work of the part -/

theorem frameRecord_pending (n : LineNo) (result : FrameResult) (s : State) :
    (frameRecord n result s).pending = s.pending :=
  ((frameWork_lineOnly n result s).trans (countSample_lineOnly n _ _)).pending

theorem runningEnd_pending (n : LineNo) (result : FrameResult) (s : State) :
    (runningEnd n result s).pending = s.pending := by
  have told : (recordWritten n (frameRecord n result s)).pending = (frameRecord n result s).pending := by
    rw [(recordWritten_told n _).frame]
  rw [runningEnd_eq, (deferredDisable_lineOnly n _).pending, told, frameRecord_pending]

theorem startCycle_pending (source : TriggerSource) (s : State) : (startCycle source s).pending = s.pending := by
  have active : (cycleActive source s).pending = s.pending := by rw [cycleActive_frame]
  rw [(startCycle_closed source s).frame]
  exact active

theorem takeTrigger_pending (source : TriggerSource) (s : State) : (takeTrigger source s).pending = s.pending := by
  unfold takeTrigger
  split
  · rfl
  · exact startCycle_pending source s
  · rfl

theorem syncEdge_pending (s : State) : (syncEdge s).pending = s.pending := by
  unfold syncEdge
  split
  · exact takeTrigger_pending .sync s
  · rfl

theorem timerExpiry_pending (s : State) : (timerExpiry s).pending = s.pending := by
  unfold timerExpiry
  split
  · exact takeTrigger_pending .timer _
  · rfl

/-! ## The answers of the owners (R180) -/

/-- What an owner can answer on a state: a refusal, which leaves the state, or an acceptance, which leaves the waiting
commands. -/
inductive AnswersOn (s : State) : Answer → Prop where
  | refused (result : ResultCode) (value : Nat) : AnswersOn s (refuse result s value)
  | accepted (value : Word) {t : State} (waiting : t.pending = s.pending) : AnswersOn s ⟨.accepted, value, t⟩

/-- The owner answers so on every state. -/
def AnswersAll (owner : State → Answer) : Prop := ∀ s, AnswersOn s (owner s)

theorem AnswersOn.pending {s : State} {a : Answer} (answers : AnswersOn s a) : a.state.pending = s.pending := by
  cases answers with
  | refused result value => rfl
  | accepted value waiting => exact waiting

theorem AnswersOn.state_of_refused {s : State} {a : Answer} (answers : AnswersOn s a)
    (refused : a.result ≠ .accepted) : a.state = s := by
  cases answers with
  | refused result value => rfl
  | accepted value waiting => exact absurd rfl refused

theorem withLine_answers {owner : LineNo → State → Answer} (answers : ∀ n, AnswersAll (owner n)) :
    AnswersAll (withLine owner) := by
  intro s
  unfold withLine
  split
  · exact .refused _ _
  · exact answers _ s

theorem lineEnable_answers (da : Bool) (n : LineNo) : AnswersAll (lineEnable da n) := by
  intro s
  unfold lineEnable
  repeat' split
  · exact .refused _ _
  · exact .refused _ _
  · exact .accepted _ (enterProbing_lineOnly n da _ s).pending

theorem lineRestart_answers (da : Bool) (n : LineNo) : AnswersAll (lineRestart da n) := by
  intro s
  unfold lineRestart
  split
  · exact .refused _ _
  · exact .accepted _ (enterProbing_lineOnly n da _ s).pending

theorem lineDisable_answers (n : LineNo) : AnswersAll (lineDisable n) := by
  intro s
  unfold lineDisable
  repeat' split
  · exact .refused _ _
  · exact .accepted _ rfl
  · exact .accepted _ (departService_lineOnly n _ _ s).pending

theorem cycleStart_answers : AnswersAll cycleStart := by
  intro s
  unfold cycleStart
  repeat' split
  · exact .refused _ _
  · exact .refused _ _
  · exact .refused _ _
  · exact .accepted _ rfl
  · exact .accepted _ rfl

theorem cycleStop_answers : AnswersAll cycleStop := by
  intro s
  unfold cycleStop
  split
  · exact .refused _ _
  · exact .accepted _ rfl

theorem triggerCommand_answers : AnswersAll triggerCommand := by
  intro s
  unfold triggerCommand
  split
  · exact .refused _ _
  · exact .accepted _ (takeTrigger_pending .host s)

theorem bankRelease_answers : AnswersAll bankRelease := by
  intro s
  simp only [bankRelease]
  split
  · exact .accepted _ rfl
  · exact .accepted _ rfl

theorem setPreset_answers (n : LineNo) : AnswersAll (setPreset n) := by
  intro s
  unfold setPreset
  split
  · exact .accepted _ rfl
  · exact .refused _ _

theorem cancelPreset_answers (n : LineNo) : AnswersAll (cancelPreset n) := by
  intro s
  unfold cancelPreset
  split
  · exact .accepted _ rfl
  · exact .refused _ _

theorem ackContinuity_answers (n : LineNo) : AnswersAll (ackContinuity n) := by
  intro s
  unfold ackContinuity
  split
  · exact .accepted _ rfl
  · exact .refused _ _

theorem svcOpen_answers (n : LineNo) : AnswersAll (svcOpen n) := by
  intro s
  unfold svcOpen openOn
  repeat' split
  · exact .refused _ _
  · exact .refused _ _
  · exact .accepted _ rfl
  · exact .refused _ _

theorem svcCancel_answers : AnswersAll svcCancel := by
  intro s
  simp only [svcCancel]
  repeat' split
  · exact .accepted _ rfl
  · exact .accepted _ rfl
  · exact .refused _ _
  · exact .refused _ _

theorem svcRelease_answers : AnswersAll svcRelease := by
  intro s
  simp only [svcRelease]
  repeat' split
  · exact .accepted _ rfl
  · exact .refused _ _
  · exact .refused _ _

theorem eventPop_answers : AnswersAll eventPop := by
  intro s
  unfold eventPop
  split
  · exact .refused _ _
  · exact .accepted _ rfl

/-- Every owner of a command refuses and leaves the state, or accepts and leaves the waiting commands. -/
theorem ownerOf_answers {c : Instr} {owner : State → Answer} (owned : ownerOf c = some owner) : AnswersAll owner := by
  cases c <;> simp only [ownerOf, Option.some.injEq, reduceCtorEq] at owned
  all_goals subst owned
  case lineEnable da => exact withLine_answers (lineEnable_answers da)
  case lineDisable => exact withLine_answers lineDisable_answers
  case lineRestart da => exact withLine_answers (lineRestart_answers da)
  case cycleStart => exact cycleStart_answers
  case cycleStop => exact cycleStop_answers
  case trigger => exact triggerCommand_answers
  case bankHold => exact fun _ => .accepted _ rfl
  case bankRelease => exact bankRelease_answers
  case setPreset => exact withLine_answers setPreset_answers
  case cancelPreset => exact withLine_answers cancelPreset_answers
  case ackContinuity => exact withLine_answers ackContinuity_answers
  case svcOpen => exact withLine_answers svcOpen_answers
  case svcCancel => exact svcCancel_answers
  case svcRelease => exact svcRelease_answers
  case eventPop => exact eventPop_answers
  case eventFlush => exact fun _ => .accepted _ rfl
  case faultClear => exact fun _ => .accepted _ rfl
  case softReset => exact fun _ => .accepted _ rfl

/-- The owner of a value written to CMD: that of its command, or the refusal of a value that holds none. -/
theorem ownerOfValue_answers (da : Bool) (value : Word) : AnswersAll (ownerOfValue da value) := by
  unfold ownerOfValue
  split
  · next owner found =>
    obtain ⟨c, -, owned⟩ := Option.bind_eq_some_iff.mp found
    exact ownerOf_answers owned
  · exact fun _ => .refused _ _

/-! ## Every command answers a next state (R174) -/

/-- No effect of a command adds a waiting command or takes one away. -/
theorem stepEffect_pending {s t : State} (effect : StepEffect s t) : t.pending = s.pending := by
  cases effect with
  | none => rfl
  | command owned code => exact (ownerOf_answers owned (s.taken code)).pending
  | badCommand value => rfl
  | argument i value => rfl
  | cycleConfiguration value => rfl
  | serviceConfiguration value => rfl
  | classMask value => rfl
  | profile n k value => rfl
  | syncEdge => exact syncEdge_pending s
  | timerExpiry => exact timerExpiry_pending s
  | tick => rfl
  | probeEnd samples probing inFlight => exact (probeEnd_lineOnly _ _ s).pending
  | runningEnd samples running inFlight => exact runningEnd_pending _ _ s
  | becomeReady observes => rfl
  | recoveryExpiry reached => exact (recoveryExpiry_lineOnly _ s).pending
  | resetLow => rfl
  | resetHigh => rfl

/-- Every arm of the dispatch answers a next state. -/
theorem exec_next (c : Instr) (s : State) : ∃ t, exec c s = .next t := by
  cases c <;> exact ⟨_, rfl⟩

/-- Settles O2: the next state is one of the effects, and none of them touches the waiting commands. -/
theorem everyCommandAnswersANextState : Obligations.EveryCommandAnswersANextState := by
  intro c s
  obtain ⟨t, run⟩ := exec_next c s
  exact ⟨t, run, stepEffect_pending (exec_effect run)⟩

/-! ## A refused command (R180) -/

/-- The result code 0 is that of an accepted command alone (R181). -/
theorem resultWord_accepted_nibble (code : Word) : (resultWord code .accepted).extractLsb' 0 4 = 0 := by
  ext i hi
  have low : i < 8 := by omega
  simp [resultWord, ResultCode.code, low]

/-- A command with a refusal in its result word has written CMD and the answer words, and nothing else. -/
theorem takeCommand_of_refused {code : Word} {owner : State → Answer} {s : State} (answers : AnswersAll owner)
    (refused : (takeCommand code owner s).port.result.extractLsb' 0 4 ≠ 0) :
    takeCommand code owner s = s.answered code (takeCommand code owner s).port.result
      (takeCommand code owner s).port.value := by
  have notAccepted : (owner (s.taken code)).result ≠ .accepted := fun accepted => by
    refine refused ?_
    rw [← resultWord_accepted_nibble code, ← accepted]
    rfl
  have left : (owner (s.taken code)).state = s.taken code := (answers _).state_of_refused notAccepted
  simp only [takeCommand, left]
  rfl

/-- No profile word stands at the address of CMD (R175). -/
theorem profileAddress_ne_cmd : ∀ (n : LineNo) (k : Fin 5), profileAddress n k ≠ 0x002 := by decide

/-- A command of the port whose write is `value` at CMD runs its owner with that value as its code. -/
theorem exec_of_owner_encode {c : Instr} {owner : State → Answer} {a : Address} {value : Word}
    (owned : ownerOf c = some owner) (spelt : encodeWrite c = some (a, value)) (s : State) :
    exec c s = whileRunning (takeCommand value owner) s := by
  cases c <;> cases owned <;> cases spelt <;> rfl

/-- Every command that is a write to CMD runs an owner that refuses or accepts. -/
theorem exec_of_encode_cmd {c : Instr} {value : Word} (spelt : encodeWrite c = some (0x002, value)) (s : State) :
    ∃ owner, AnswersAll owner ∧ exec c s = whileRunning (takeCommand value owner) s := by
  cases owned : ownerOf c with
  | some owner => exact ⟨owner, ownerOf_answers owned, exec_of_owner_encode owned spelt s⟩
  | none =>
    cases c <;> simp only [ownerOf, reduceCtorEq] at owned <;>
      simp only [encodeWrite, Option.some.injEq, Prod.mk.injEq, reduceCtorEq] at spelt
    case badCommand v =>
      obtain ⟨-, rfl⟩ := spelt
      exact ⟨_, ownerOfValue_answers s.argDa v, rfl⟩
    case registerWrite a v =>
      obtain ⟨rfl, rfl⟩ := spelt
      exact ⟨_, ownerOfValue_answers s.argDa v, rfl⟩
    case profileWrite n k v => exact absurd spelt.1 (profileAddress_ne_cmd n k)
    case cycleConfigurationWrite v => exact absurd spelt.1 (by decide)
    case serviceConfigurationWrite v => exact absurd spelt.1 (by decide)
    case classMaskWrite v => exact absurd spelt.1 (by decide)

/-- Settles O4: the owner of the command refused, and left the state that it was given. -/
theorem refusedCommandChangesOnlyThePort : Obligations.RefusedCommandChangesOnlyThePort := by
  intro c s t value high spelt run refused
  obtain ⟨owner, answers, isCommand⟩ := exec_of_encode_cmd spelt s
  rw [isCommand, whileRunning_of_high high] at run
  obtain rfl := next_inj run
  exact takeCommand_of_refused answers refused

end Sys2Proof.Machine
end

section
/-! PROOFS. The profile words (R26, R174, R179): which bits of a word a field takes and shows, and what a write to one
word leaves of the others. -/

namespace Sys2Proof.Machine

/-! ## The bits of a field -/

/-- The bits of a word that a field of `width` bits with its lowest bit at `lo` takes. -/
def fieldMask (lo width : Nat) : Word := (BitVec.allOnes width).setWidth 32 <<< lo

/-- A field taken from a word and put back in its place is the word's part under the mask of the field. -/
theorem shiftLeft_extractLsb' (v : Word) (lo width : Nat) :
    (v.extractLsb' lo width).setWidth 32 <<< lo = v &&& fieldMask lo width := by
  ext i hi
  simp only [fieldMask, BitVec.getElem_and, BitVec.getElem_shiftLeft]
  by_cases below : i < lo
  · simp [below]
  · have place : lo + (i - lo) = i := by omega
    simp [below, place, BitVec.getLsbD_eq_getElem hi, Bool.and_comm]

/-- A field stored from a word reads the word's bits in its place. -/
theorem field_extractLsb' (v : Word) (lo width : Nat) :
    field lo width (v.extractLsb' lo width).toNat = v &&& fieldMask lo width := by
  rw [field, BitVec.ofNat_toNat, BitVec.setWidth_eq, shiftLeft_extractLsb']

/-- A flag stored from a bit reads that bit. -/
theorem flag_getLsbD (v : Word) (lo : Nat) : flag lo (v.getLsbD lo) = v &&& fieldMask lo 1 := by
  have bit : v.extractLsb' lo 1 = BitVec.ofBool (v.getLsbD lo) := by
    ext i hi
    obtain rfl : i = 0 := by omega
    simp
  rw [← field_extractLsb', bit, BitVec.toNat_ofBool, flag]

/-! ## The jump limit across words 3 and 4 -/

theorem write_three_jumpLimit (p : Profile) (v : Word) :
    (p.write 3 v).jumpLimit.toNat = p.jumpLimit.toNat / 2 ^ 32 * 2 ^ 32 + v.toNat := by
  have high := p.jumpLimit.isLt
  have low := v.isLt
  show (p.jumpLimit.extractLsb' 32 8 ++ v).toNat = _
  rw [BitVec.toNat_append, BitVec.extractLsb'_toNat, ← Nat.shiftLeft_add_eq_or_of_lt low, Nat.shiftLeft_eq,
    Nat.shiftRight_eq_div_pow]
  omega

theorem write_four_jumpLimit (p : Profile) (v : Word) :
    (p.write 4 v).jumpLimit.toNat = v.toNat % 2 ^ 8 * 2 ^ 32 + p.jumpLimit.toNat % 2 ^ 32 := by
  show (v.extractLsb' 0 8 ++ p.jumpLimit.extractLsb' 0 32).toNat = _
  rw [BitVec.toNat_append, BitVec.extractLsb'_toNat, BitVec.extractLsb'_toNat, Nat.shiftRight_zero,
    Nat.shiftRight_zero, ← Nat.shiftLeft_add_eq_or_of_lt (Nat.mod_lt _ (by decide)), Nat.shiftLeft_eq]

/-! ## Reading a profile word back -/

/-- The bits that the layout of profile word `k` assigns (R179). -/
def profileMask (k : Fin 5) : Word :=
  match k with
  | 0 => 0x01031F1F#32
  | 1 => 0x0F7FFF77#32
  | 2 => 0xFF0F3F0F#32
  | 3 => 0xFFFFFFFF#32
  | 4 => 0x000000FF#32

theorem profileWord_write_same (p : Profile) (k : Fin 5) (v : Word) :
    profileWord (p.write k v) k = v &&& profileMask k := by
  match k with
  | 0 =>
    simp only [profileWord, Profile.write, field_extractLsb', flag_getLsbD, ← BitVec.and_or_distrib_left]
    rfl
  | 1 =>
    simp only [profileWord, Profile.write, field_extractLsb', ← BitVec.and_or_distrib_left]
    rfl
  | 2 =>
    simp only [profileWord, Profile.write, field_extractLsb', ← BitVec.and_or_distrib_left]
    rfl
  | 3 =>
    show (p.jumpLimit.extractLsb' 32 8 ++ v).extractLsb' 0 32 = v &&& BitVec.allOnes 32
    rw [BitVec.extractLsb'_append_eq_right, BitVec.and_allOnes]
  | 4 =>
    show field 0 8 ((v.extractLsb' 0 8 ++ p.jumpLimit.extractLsb' 0 32).extractLsb' 32 8).toNat = v &&& fieldMask 0 8
    rw [BitVec.extractLsb'_append_eq_left, field_extractLsb']

theorem profileWord_write_other (p : Profile) {j k : Fin 5} (other : j ≠ k) (v : Word) :
    profileWord (p.write k v) j = profileWord p j := by
  match j, k, other with
  | 3, 4, _ => exact BitVec.extractLsb'_append_eq_right
  | 4, 3, _ =>
    show field 0 8 ((p.jumpLimit.extractLsb' 32 8 ++ v).extractLsb' 32 8).toNat = _
    rw [BitVec.extractLsb'_append_eq_left]
    rfl
  | 0, 1, _ | 0, 2, _ | 0, 3, _ | 0, 4, _ => rfl
  | 1, 0, _ | 1, 2, _ | 1, 3, _ | 1, 4, _ => rfl
  | 2, 0, _ | 2, 1, _ | 2, 3, _ | 2, 4, _ => rfl
  | 3, 0, _ | 3, 1, _ | 3, 2, _ => rfl
  | 4, 0, _ | 4, 1, _ | 4, 2, _ => rfl
  | 0, 0, other | 1, 1, other | 2, 2, other | 3, 3, other | 4, 4, other => exact absurd rfl other

/-- Settles O17: the fields by `Profile.write`, the jump limit as a number, and the word under its mask. -/
theorem profileWordReadsBack : Obligations.ProfileWordReadsBack := by
  intro p v
  refine ⟨rfl, rfl, rfl, fun k jump => ?_, write_three_jumpLimit p v, write_four_jumpLimit p v,
    fun k => ⟨?_, fun j other => profileWord_write_other p other v⟩⟩
  · match k, jump with
    | 3, _ => rfl
    | 4, _ => rfl
  · rw [profileWord_write_same]
    rfl

end Sys2Proof.Machine
end

section
/-! PROOFS. The host window (R174, R175, R180, R185): the command that a host write spells, the writes that reach no
block, and the step that takes a command. -/

namespace Sys2Proof.Machine

/-! ## The commands of the values written to CMD (R180, R182) -/

theorem eq_ofNat_of_toNat {w k : Nat} {x : BitVec w} (h : x.toNat = k) : x = BitVec.ofNat w k := by
  rw [← h, BitVec.ofNat_toNat, BitVec.setWidth_eq]

/-- The command of a value written to CMD has an owner, and is spelt by that value. -/
theorem owner_and_encode_of_commandOf {da : Bool} {value : Word} {c : Instr} (named : commandOf da value = some c) :
    (∃ owner, ownerOf c = some owner) ∧ encodeWrite c = some (0x002, value) := by
  unfold commandOf at named
  split at named
  case h_19 => cases named
  all_goals
    next code =>
      cases named
      obtain rfl := eq_ofNat_of_toNat code
      exact ⟨⟨_, rfl⟩, rfl⟩

/-- A value written to CMD runs the command that it names. -/
theorem exec_of_commandOf {s : State} {value : Word} {c : Instr} (named : commandOf s.argDa value = some c) :
    exec c s = whileRunning (writeCmd value) s := by
  obtain ⟨⟨owner, owned⟩, spelt⟩ := owner_and_encode_of_commandOf named
  have handed : ownerOfValue s.argDa value = owner := by
    simp only [ownerOfValue, named, Option.bind_some, owned]
  rw [exec_of_owner_encode owned spelt, whileRunning_next, whileRunning_next, writeCmd, handed]

/-- A command of the port whose write is a value, with the level of DA given, is what that value names. -/
theorem commandOf_encode {c : Instr} {owner : State → Answer} {da : Bool} {a : Address} {value : Word}
    (owned : ownerOf c = some owner) (spelt : encodeWrite c = some (a, value))
    (enable : ∀ d, c = .lineEnable d → d = da) (restart : ∀ d, c = .lineRestart d → d = da) :
    a = 0x002 ∧ commandOf da value = some c := by
  cases c <;> cases owned <;> cases spelt
  case lineEnable d => obtain rfl := enable d rfl; exact ⟨rfl, rfl⟩
  case lineRestart d => obtain rfl := restart d rfl; exact ⟨rfl, rfl⟩
  all_goals exact ⟨rfl, rfl⟩

theorem commandOf_of_not_assigned {value : Word} (unassigned : assignedCommand value = false) (da : Bool) :
    commandOf da value = none := by
  rw [← Option.not_isSome_iff_eq_none, commandOf_isSome, unassigned, Bool.not_eq_true]

/-! ## The command that a host write spells (R174, R175) -/

/-- A write to CMD spells the command that its value names, and BAD_COMMAND where it names none. -/
theorem decodeWrite_cmd (da : Bool) (value : Word) :
    decodeWrite da 0x002 value = (commandOf da value).getD (.badCommand value) := rfl

/-- A write to a word with no behaviour of its own spells REGISTER_WRITE. -/
theorem decodeWrite_of_not_own {address : Address} (plain : hasOwnWrite address = false) (da : Bool) (value : Word) :
    decodeWrite da address value = .registerWrite address value := by
  unfold decodeWrite
  split
  case h_6 => rfl
  all_goals
    next found => simp [hasOwnWrite, found] at plain

/-- A write to a profile word spells PROFILE_WRITE of that word. -/
theorem decodeWrite_profile (da : Bool) (n : LineNo) (k : Fin 5) (value : Word) :
    decodeWrite da (profileAddress n k) value = .profileWrite n k value := by
  rw [decodeWrite, profileAddress, decodeAddress_profile]

/-- Settles O5: the word that the address names decides what the write spells and what it does. -/
theorem hostWriteIsTheCommandItSpells : Obligations.HostWriteIsTheCommandItSpells := by
  intro a v s
  have register : exec (.registerWrite a v) s = .next (if s.resetLow then s else hostWrite a v s) := rfl
  rw [register]
  unfold decodeWrite
  split
  case h_1 cmd =>
    simp only [hostWrite, cmd]
    cases named : commandOf s.argDa v with
    | some c => exact exec_of_commandOf named
    | none => rfl
  case h_2 word => simp only [hostWrite, word]; rfl
  case h_3 word => simp only [hostWrite, word]; rfl
  case h_4 word => simp only [hostWrite, word]; rfl
  case h_5 n k word => simp only [hostWrite, word]; rfl
  case h_6 => rfl

/-- Settles O6: a command of the port by its value, and every other host command by its address. -/
theorem encodedHostWriteDecodes : Obligations.EncodedHostWriteDecodes := by
  intro c da a v formed spelt enable restart
  cases owned : ownerOf c with
  | some owner =>
    obtain ⟨rfl, named⟩ := commandOf_encode owned spelt enable restart
    rw [decodeWrite_cmd, named, Option.getD_some]
  | none =>
    cases c <;> simp only [ownerOf, reduceCtorEq] at owned
    case badCommand value =>
      cases spelt
      have unassigned : assignedCommand v = false := by simpa [wellFormed] using formed
      rw [decodeWrite_cmd, commandOf_of_not_assigned unassigned, Option.getD_none]
    case profileWrite n k value => cases spelt; exact decodeWrite_profile da n k v
    case cycleConfigurationWrite value => cases spelt; rfl
    case serviceConfigurationWrite value => cases spelt; rfl
    case classMaskWrite value => cases spelt; rfl
    case registerWrite address value =>
      cases spelt
      have plain : hasOwnWrite a = false := by simpa [wellFormed] using formed
      exact decodeWrite_of_not_own plain da v
    all_goals cases spelt

/-! ## The writes that reach no block (R174, R181, R182) -/

/-- A refusal with BAD_COMMAND echoes the low byte of the value written (R181). -/
theorem resultWord_badCommand (value : Word) :
    resultWord value .badCommand = 0x1 ||| ((value &&& 0xFF) <<< 8) := by
  have low : (value.extractLsb' 0 8).setWidth 32 <<< 0 = value &&& 0xFF := shiftLeft_extractLsb' value 0 8
  rw [resultWord, ← low, BitVec.shiftLeft_zero]
  rfl

/-- A value with no assigned code is refused. -/
theorem writeCmd_badCommand {value : Word} (unassigned : assignedCommand value = false) (s : State) :
    writeCmd value s = s.answered value (0x1 ||| ((value &&& 0xFF) <<< 8)) 0 := by
  have refused : takeCommand value (refuse .badCommand) s = s.answered value (resultWord value .badCommand) 0 :=
    takeCommand_refuse (v := 0) rfl
  rw [writeCmd_of_not_assigned unassigned]
  exact refused.trans (by rw [resultWord_badCommand])

theorem decodeAddress_arg : ∀ i : Fin 6, decodeAddress (BitVec.ofNat 10 (3 + i.val)) = .arg i := by decide

/-- A choice between two values that are both other than `z`. The branches of the window map are closed by this, since
`split` would look through the bounds in all of its words. -/
theorem dite_ne_of {α : Type} {c : Prop} [Decidable c] {x : c → α} {y : ¬c → α} {z : α} (yes : ∀ h, x h ≠ z)
    (no : ∀ h, y h ≠ z) : dite c x y ≠ z := by
  by_cases h : c
  · rw [dif_pos h]; exact yes h
  · rw [dif_neg h]; exact no h

/-- Of the global words those at 3 to 8 alone are argument words (R175). -/
theorem eq_of_decodeGlobal_arg {a : Nat} {i : Fin 6} (named : decodeGlobal a = .arg i) : a = 3 + i.val := by
  by_cases bounds : 3 ≤ a ∧ a ≤ 8
  · rw [decodeGlobal, dif_pos bounds] at named
    cases named
    exact (Nat.add_sub_of_le bounds.1).symm
  · refine absurd named ?_
    rw [decodeGlobal, dif_neg bounds]
    repeat' refine dite_ne_of (fun _ => ?_) fun _ => ?_
    all_goals nofun

/-- An argument word stands at its address alone (R175). -/
theorem eq_of_decodeAddress_arg {a : Address} {i : Fin 6} (named : decodeAddress a = .arg i) :
    a = BitVec.ofNat 10 (3 + i.val) := by
  by_cases global : a.toNat < 0x040
  · rw [decodeAddress, if_pos global] at named
    exact eq_ofNat_of_toNat (eq_of_decodeGlobal_arg named)
  · refine absurd named ?_
    rw [decodeAddress, if_neg global]
    repeat' refine dite_ne_of (fun _ => ?_) fun _ => ?_
    all_goals nofun

/-- A write to a word with no behaviour of its own that is no argument word is ignored. -/
theorem hostWrite_of_ignored {a : Address} (plain : hasOwnWrite a = false)
    (other : ∀ i : Fin 6, a ≠ BitVec.ofNat 10 (3 + i.val)) (v : Word) (s : State) : hostWrite a v s = s := by
  unfold hostWrite
  split
  case h_2 i named => exact absurd (eq_of_decodeAddress_arg named) (other i)
  case h_7 => rfl
  all_goals
    next found => simp [hasOwnWrite, found] at plain

/-- Settles O7: the two writes that the window map sends to no block, and the refusal of a value with no code. -/
theorem writesThatReachNoBlock : Obligations.WritesThatReachNoBlock := by
  intro s v high
  have register (a : Address) : exec (.registerWrite a v) s = .next (hostWrite a v s) :=
    whileRunning_of_high high (hostWrite a v)
  have bad : exec (.badCommand v) s = .next (writeCmd v s) := whileRunning_of_high high (writeCmd v)
  refine ⟨fun unassigned => ?_, fun i => ?_, fun a plain other => ?_⟩
  · rw [bad, writeCmd_badCommand unassigned]
  · rw [register, hostWrite, decodeAddress_arg]
    rfl
  · rw [register, hostWrite_of_ignored plain other]

/-! ## The step, and the part while RESET is low (R174, R185) -/

/-- Settles O1: a step looks at the front of the queue only. -/
theorem stepRunsTheFrontCommand : Obligations.StepRunsTheFrontCommand := by
  refine ⟨fun c s => rfl, fun s idle => ?_⟩
  simp only [step, idle]

/-- While RESET is low every command but the two of the RESET input changes nothing. -/
theorem exec_of_low {c : Instr} {s : State} (low : s.resetLow = true) (falling : c ≠ .hardwareReset)
    (rising : c ≠ .resetRelease) : exec c s = .next s := by
  cases c
  case hardwareReset => exact absurd rfl falling
  case resetRelease => exact absurd rfl rising
  all_goals exact congrArg Host.Outcome.next (if_pos low)

/-- Settles O3: the commands by `whileRunning`, the reads by `hostRead`. -/
theorem nothingIsTakenWhileResetIsLow : Obligations.NothingIsTakenWhileResetIsLow := fun _ low =>
  ⟨fun _ => exec_of_low low, hostRead_of_low low⟩

end Sys2Proof.Machine
end

section
/-! PROOFS. The reset state meets every law of the device (R185): each law after a reset of the blocks, of which the
reset state is one. -/

namespace Sys2Proof.Machine

/-- After a reset the event queue is empty and RESET is the only cause (R167, R173). -/
theorem resetBlocks_reportLaws (s : State) : EventLaw (resetBlocks s) ∧ FaultLaw (resetBlocks s) :=
  ⟨⟨Nat.zero_le _, nofun⟩, List.nodup_singleton _⟩

/-- After a reset no context holds data (R137). -/
theorem resetBlocks_dataLaw (s : State) : DataLaw (resetBlocks s) := fun c => by
  rw [resetBlocks_ctx]
  rfl

/-- After a reset every queue is empty and no context QUEUED (R137). -/
theorem resetBlocks_queueLaw (s : State) : QueueLaw (resetBlocks s) := fun n => by
  simp [resetBlocks_line, Line.reset, ContextBody.queuedOn]

/-- After a reset no context is ACTIVE or QUEUED (R137). -/
theorem resetBlocks_activeLaw (s : State) : ActiveLaw (resetBlocks s) := by
  simp [ActiveLaw, ContextBody.activeOn, ContextBody.queuedOn]

/-- A reset of the blocks makes every law true, whatever the state before it. -/
theorem resetBlocks_invariant (s : State) : Invariant (resetBlocks s) := by
  obtain ⟨events, faults⟩ := resetBlocks_reportLaws s
  obtain ⟨rings, velocity⟩ := (historyLaw_iff _).mp (resetBlocks_historyLaw s)
  exact ⟨events, faults, resetBlocks_lineLaw s, resetBlocks_anchorLaw s, rings, velocity, resetBlocks_cycleLaw s,
    resetBlocks_dataLaw s, resetBlocks_queueLaw s, resetBlocks_activeLaw s⟩

/-- A reset of the blocks leaves the reset state as it is. -/
theorem resetBlocks_reset : resetBlocks State.reset = State.reset := rfl

/-- Settles O54: the reset state is its own reset. -/
theorem resetMeetsTheInvariant : Obligations.ResetMeetsTheInvariant := by
  have invariant := resetBlocks_invariant State.reset
  rw [resetBlocks_reset] at invariant
  exact invariant

end Sys2Proof.Machine
end
